-- ==== Sys2Proof/Word.lean ====
section
/-! DEFINITION. The words, bytes and index types of the FC612 (00_scope.md, Words, bytes and bits; Identifiers). -/

namespace Sys2Proof

/-- A byte on the SPI port. -/
abbrev Byte := BitVec 8

/-- A 16-bit value: a sequence number, an event detail, a counter. -/
abbrev Half := BitVec 16

/-- A word of 32 bits, a byte address, or a time on the ring of the tick counter. -/
abbrev Word := BitVec 32

/-- A position or motion value: signed 48-bit two's complement, kept modulo 2^48. -/
abbrev Pos := BitVec 48

/-- Channels are numbered 0 to 11. -/
abbrev ChanId := Fin 12

/-- Descriptors are numbered 0 to 15. -/
abbrev DescId := Fin 16

/-- Tracking Table entries are numbered 0 to 23. -/
abbrev EntryId := Fin 24

end Sys2Proof
end

