-- ==== Sys2Proof/Syntax.lean ====
section
/-! DEFINITION. The commands of the block: one constructor for each row of spec/opcode_table.json. -/

namespace Sys2Proof

/-- The happenings of the FC612. Operands are what the row's happening brings from outside: bytes of the SPI frame that
takes the command, the signals of a link transfer (R171, R172), the channel whose deadline is reached or the entry that
times out. -/
inductive Instr where
  /-- TICK, R64 -/
  | tick
  /-- PIN_RESET, R170: RST# is asserted -/
  | pinReset
  /-- PIN_RESET_RELEASE, R170: RST# is released -/
  | pinResetRelease
  /-- CS_FALL, R153 -/
  | csFall
  /-- CS_RISE, R156 -/
  | csRise
  /-- BAD_COMMAND, R154: the command byte -/
  | badCommand (code : Byte)
  /-- GET_ITEM, R158 -/
  | getItem (scope index item : Byte)
  /-- SET_ITEM, R159 -/
  | setItem (scope index item : Byte) (value : Word)
  /-- SET_CHANNEL_ITEM, R2: a SET_ITEM of scope CHANNEL -/
  | setChannelItem (channel item : Byte) (value : Word)
  /-- SET_DESCRIPTOR_ITEM, R24: a SET_ITEM of scope DESCRIPTOR -/
  | setDescriptorItem (descriptor item : Byte) (value : Word)
  /-- SET_TICK_DIV, R65 -/
  | setTickDiv (value : Word)
  /-- SET_PART_INITIATOR, R126 -/
  | setPartInitiator (value : Word)
  /-- SET_RESP_LIMIT, R131 -/
  | setRespLimit (value : Word)
  /-- SET_EVENT_MASK, R143 -/
  | setEventMask (value : Word)
  /-- ENABLE_CHANNEL, R7 -/
  | enableChannel (channel : Byte)
  /-- DISABLE_CHANNEL, R14 -/
  | disableChannel (channel : Byte)
  /-- GET_CHANNEL_STATE, R161 -/
  | getChannelState (channel : Byte)
  /-- GET_COUNTERS, R162 -/
  | getCounters (channel : Byte)
  /-- CLEAR_COUNTERS, R151 -/
  | clearCounters (channel : Byte)
  /-- POP_EVENT, R145 -/
  | popEvent
  /-- CLEAR_EVENTS, R145 -/
  | clearEvents
  /-- GET_STATUS, R164 -/
  | getStatus
  /-- GET_TIME, R165 -/
  | getTime
  /-- SOFT_RESET, R166 -/
  | softReset
  /-- SOFT_RESET_COMPLETION, R169 -/
  | softResetCompletion
  /-- TAKE_REQUEST, R105: the request transfer offered on the UQ signals (R171) -/
  | takeRequest (kind : BitVec 1) (addr : Word) (len : BitVec 3) (init : BitVec 4) (tag : Byte) (be : Half) (data : BitVec 128)
  /-- CLASSIFICATION, R107 -/
  | classification
  /-- RELEASED_READ_MOVE, R120 -/
  | releasedReadMove
  /-- DEADLINE_REACHED, R78: of one channel -/
  | deadlineReached (channel : ChanId)
  /-- GRANT, R127 -/
  | grant
  /-- ISSUE, R130 -/
  | issue
  /-- RESPONSE, R132: the response transfer on the DS signals (R172) -/
  | response (init : BitVec 4) (tag : Byte) (status : BitVec 2) (data : BitVec 128)
  /-- TIMEOUT, R136: of one Tracking Table entry -/
  | timeout (entry : EntryId)
  /-- SPI_BYTE, R153: a complete byte on MOSI -/
  | spiByte (mosi : Byte)
  deriving DecidableEq, Repr

end Sys2Proof
end

