-- ==== Sys2Proof/Decode.lean ====
section
/-! DEFINITION. The command a table word spells. No row of spec/opcode_table.json gives bits ("fields": [] in all 34), so no
word spells a command. -/

namespace Sys2Proof

/-- Every row of the table is without bits: no word names a command (log entry 9). -/
def decodeTableWord (_nbits _w : Nat) : Option Instr := none

end Sys2Proof
end

