-- ==== Sys2Proof/Config.lean ====
section
/-! DEFINITION. What is fixed for the part: the capacities of its collections (00_scope.md, Capacities) and the one free
value of the model. -/

namespace Sys2Proof.Config

/-- Intake Queue entries (R105). -/
abbrev intakeCap : Nat := 16
/-- Forward Queue entries (R117). -/
abbrev forwardCap : Nat := 8
/-- Hold List entries (R119). -/
abbrev holdCap : Nat := 8
/-- Record Queue entries (R91). -/
abbrev recordCap : Nat := 8
/-- Event FIFO entries (R141). -/
abbrev eventCap : Nat := 32
/-- Intervals an interval history keeps (R70). -/
abbrev historyCap : Nat := 8
/-- Records in the queue from which record priority may be in force (R129). -/
abbrev priorityMark : Nat := 6
/-- The greatest interval, NOMINAL, LIMIT and base interval: 16,777,215 (R1, R69, R71). -/
abbrev max24 : Nat := 16777215

/-- FREE VALUE (log entry 3, DESIGN CHOICE of form; safe). Events that different blocks raise in one happening are entered
in either order (R142). The k-th such choice is `eventOrder k`, about which nothing can be proved. -/
opaque eventOrder : Nat → Nat

end Sys2Proof.Config
end

