-- ==== Sys2Proof/Machine/State.lean ====
section
/-! DEFINITION. The state of the FC612: every register, queue, table, counter, mode and pin the spec gives the part, as plain
data, and the reasons a step can stop. -/

namespace Sys2Proof.Machine

/-! ## Configuration -/

/-- Kind of a schedule step (R3). -/
inductive StepKind where
  | position | aux
  deriving DecidableEq, Repr

/-- A schedule step: a descriptor and a kind (R3). -/
structure SchedStep where
  desc : DescId
  kind : StepKind
  deriving DecidableEq, Repr

/-- The SCHEDULE item (R3): steps below `len` are the schedule, those at or above it are stored as (0, POSITION). -/
structure Schedule where
  len : Nat
  steps : Vector SchedStep 4
  deriving DecidableEq, Repr

/-- FILTER_MODE (R1). -/
inductive FilterMode where
  | off | rate | curve
  deriving DecidableEq, Repr

/-- SYNTH_POLICY (R1). -/
inductive SynthPolicy where
  | project | hold
  deriving DecidableEq, Repr

/-- The fifteen configuration items of a channel (R1). `owner = none` is ANY. -/
structure ChanConfig where
  intakeBase : Word
  outputBase : Word
  outputDepth : Nat
  owner : Option (BitVec 4)
  passraw : Bool
  schedule : Schedule
  filterMode : FilterMode
  limit : Nat
  persist : Nat
  synthPolicy : SynthPolicy
  nominal : Nat
  avgDepth : Nat
  deadlineK : Nat
  guardG : Nat
  missLimit : Nat
  deriving DecidableEq, Repr

/-- Role of a field (R23). -/
inductive Role where
  | position | turns | status | fault | tag | auxdata
  deriving DecidableEq, Repr

/-- Encoding of a field (R23). -/
inductive Encoding where
  | binary | signed | gray
  deriving DecidableEq, Repr

/-- A present field slot (R23). -/
structure FieldSlot where
  role : Role
  word : Nat
  start : Nat
  width : Nat
  encoding : Encoding
  deriving DecidableEq, Repr

/-- A descriptor (R22). An absent slot is `none`; its stored parts are always those of R23. -/
structure Descriptor where
  frameWords : Nat
  tagExpect : Byte
  faultMask : Word
  fields : Vector (Option FieldSlot) 4
  deriving DecidableEq, Repr

/-! ## Runtime part of a channel -/

/-- Life-cycle state (R4). -/
inductive LifeCycle where
  | disabled | waiting | running | lost | draining
  deriving DecidableEq, Repr

/-- Conditioner state (R49). -/
inductive CondState where
  | prime | track | holdover | slew
  deriving DecidableEq, Repr

/-- Interval mark (R67). -/
inductive IntervalMark where
  | clean | spoiled
  deriving DecidableEq, Repr

/-- The four pending flags (R88). -/
structure PendingFlags where
  afterSynth : Bool
  faultSeen : Bool
  resynced : Bool
  reacquired : Bool
  deriving DecidableEq, Repr

/-- The runtime fields of a channel (R4, R49, R67). -/
structure Runtime where
  state : LifeCycle
  stepPtr : Fin 4
  staging : Vector Word 4
  marks : Vector Bool 4
  frameLen : Nat
  width : Nat
  pLast : Option Nat
  auxStatus : Half
  statusValid : Bool
  auxWord : Word
  auxValid : Bool
  ep : Pos
  op : Pos
  vel : Pos
  acc : Pos
  cond : CondState
  viol : Nat
  history : List Nat
  base : Nat
  deadline : Option Word
  lastArrival : Option Word
  miss : Nat
  mark : IntervalMark
  nextSeq : Half
  pend : PendingFlags
  deriving DecidableEq, Repr

/-- The nine counters of a channel (R149). -/
structure Counters where
  frames : Half
  auxFrames : Half
  faults : Half
  early : Half
  synth : Half
  limited : Half
  dropped : Half
  failed : Half
  refused : Half
  deriving DecidableEq, Repr

/-- A channel: configuration part, runtime part and counters. -/
structure Channel where
  cfg : ChanConfig
  rt : Runtime
  ctr : Counters
  deriving DecidableEq, Repr

/-! ## Traffic -/

/-- Kind of a link request (R102). -/
inductive ReqKind where
  | read | write
  deriving DecidableEq, Repr

/-- A memory-link request (R102, R171): bit 4i+j of `be` enables byte j of data word i, bits 32i to 32i+31 of `data` are
data word i. Lanes the part ignores are held as 0. -/
structure Request where
  kind : ReqKind
  addr : Word
  len : BitVec 3
  be : Half
  init : BitVec 4
  tag : Byte
  data : BitVec 128
  deriving DecidableEq, Repr

/-- An Intake Queue entry: a request and its acceptance stamp (R105). -/
structure IntakeEntry where
  req : Request
  stamp : Word
  deriving DecidableEq, Repr

/-- Condition of a held read (R119). -/
inductive HoldCond where
  | held | released
  deriving DecidableEq, Repr

/-- A Hold List entry (R119). -/
structure HoldEntry where
  req : Request
  chan : ChanId
  slot : Nat
  cond : HoldCond
  deriving DecidableEq, Repr

/-- A queued record (R91): its channel, sequence number, slot and eight words. -/
structure Record where
  chan : ChanId
  seq : Half
  slot : Nat
  words : Vector Word 8
  deriving DecidableEq, Repr

/-- Outcome of a record half (R96). -/
inductive HalfOutcome where
  | awaiting | ok | memoryError | timeout
  deriving DecidableEq, Repr

/-- An outstanding record (R96). -/
structure OutRecord where
  chan : ChanId
  seq : Half
  slot : Nat
  first : HalfOutcome
  second : HalfOutcome
  deriving DecidableEq, Repr

/-- Which half of a record an entry writes (R124). -/
inductive RecHalf where
  | first | second
  deriving DecidableEq, Repr

/-- Origin of a transaction, with its part (R124). -/
inductive Origin where
  | forward (init : BitVec 4) (tag : Byte)
  | record (chan : ChanId) (seq : Half) (half : RecHalf)
  deriving DecidableEq, Repr

/-- Phase of an entry in use (R124). Byte enables and write data are kept until the request is accepted; the issue stamp and
the limit are present in ISSUED. -/
inductive Phase where
  | granted (be : Half) (data : BitVec 128)
  | issued (stamp : Word) (limit : Nat)
  deriving DecidableEq, Repr

/-- What an entry in use holds (R124). -/
structure Transaction where
  phase : Phase
  orphan : Bool
  origin : Origin
  kind : ReqKind
  addr : Word
  len : BitVec 3
  deriving DecidableEq, Repr

/-- A Tracking Table entry: its generation and, in use, its transaction (R124). -/
structure Entry where
  gen : BitVec 3
  tx : Option Transaction
  deriving DecidableEq, Repr

/-- A claimant of the arbiter (R128). -/
inductive Claimant where
  | forward | record
  deriving DecidableEq, Repr

/-- Status of an upstream response (R103). -/
inductive UpStatus where
  | ok | memoryError | refused
  deriving DecidableEq, Repr

/-- A response placed on the upstream link (R103): `data` holds as many words as the read's length, none for a write. -/
structure UpResponse where
  init : BitVec 4
  tag : Byte
  status : UpStatus
  data : List Word
  deriving DecidableEq, Repr

/-- The signals of a request transfer on UQ or DQ, valid and accept apart (R171). -/
structure RequestTransfer where
  kind : BitVec 1
  addr : Word
  len : BitVec 3
  init : BitVec 4
  tag : Byte
  be : Half
  data : BitVec 128
  deriving DecidableEq, Repr

/-- The signals of a response transfer on US, valid apart (R172). -/
structure ResponseTransfer where
  init : BitVec 4
  tag : Byte
  status : BitVec 2
  data : BitVec 256
  deriving DecidableEq, Repr

/-! ## Events -/

/-- The fifteen event kinds (R148). -/
inductive EventKind where
  | chLost | chReacquired | chDrained | slewBegin | slewEnd | frameFault | earlyFrame | resync
  | recordDropped | recordFailed | writeRefused | intruder | requestRefused | strayResponse | resetDone
  deriving DecidableEq, Repr

/-- An event as a block raises it (R142). -/
structure RawEvent where
  kind : EventKind
  chan : Option ChanId
  detail : Half
  deriving DecidableEq, Repr

/-- An Event FIFO entry (R141). -/
structure EventEntry where
  kind : EventKind
  chan : Option ChanId
  stamp : Word
  detail : Half
  deriving DecidableEq, Repr

/-! ## Management Port -/

/-- SPI frame state (R153). -/
inductive FrameState where
  | idle | command | arguments | response | trailing
  deriving DecidableEq, Repr

/-- The progress of the SPI frame: frame state, command byte, argument bytes received so far and response bytes still to be
shifted out (09_management_port.md, opening). While no command byte has been received `cmd` is 0 (DESIGN CHOICE, log entry
15). In RESPONSE and TRAILING `cmd` is the byte of the command taken and `args` is empty (DESIGN CHOICE, log entry 16). -/
structure MgmtPort where
  frame : FrameState
  cmd : Byte
  args : List Byte
  resp : List Byte
  deriving DecidableEq, Repr

/-! ## The part -/

/-- The whole state. The fields `pending`, `usOut`, `dqOut`, `misoOut` and `choice` are the model's own (INVENTORY.md). -/
structure State where
  /-- the commands waiting, first in first out -/
  pending : List Instr
  /-- RST# is asserted (R170) -/
  rstAsserted : Bool
  /-- CS# is low (R153, R170) -/
  csLow : Bool
  /-- the tick counter (R64) -/
  tick : Word
  /-- the item TICK_DIV (R65) -/
  tickDiv : BitVec 3
  /-- the TICK_DIV the tick in progress began with (R64) -/
  tickLen : BitVec 3
  chans : Vector Channel 12
  descs : Vector Descriptor 16
  /-- the Intake Queue (R105), oldest first -/
  intake : List IntakeEntry
  /-- the Forward Queue (R117), oldest first -/
  forward : List Request
  /-- the Hold List (R119), oldest first -/
  hold : List HoldEntry
  /-- the Record Queue (R91), oldest first -/
  records : List Record
  /-- the outstanding records (R96) -/
  outstanding : List OutRecord
  /-- the Tracking Table (R124) -/
  table : Vector Entry 24
  /-- the send order (R130), oldest first -/
  sendOrder : List EntryId
  /-- PART_INITIATOR as it stood when the oldest request of the send order was first offered (R126) -/
  offeredInit : Option (BitVec 4)
  /-- the arbiter's last winner (R128) -/
  lastWinner : Claimant
  /-- the item PART_INITIATOR (R126) -/
  partInitiator : BitVec 4
  /-- the item RESP_LIMIT, in ticks (R131) -/
  respLimit : Nat
  /-- the item EVENT_MASK: bit n enables kind n (R143, R176) -/
  eventMask : BitVec 15
  /-- the Event FIFO (R141), oldest first -/
  events : List EventEntry
  /-- OVERFLOW (R144) -/
  overflow : Bool
  /-- DROPPED_EVENTS (R152) -/
  droppedEvents : Byte
  /-- STRAY (R152) -/
  stray : Half
  /-- REFUSED_REQUESTS (R152) -/
  refusedRequests : Half
  mgmt : MgmtPort
  /-- RESETTING (R166) -/
  resetting : Bool
  /-- MODEL: responses placed on the upstream link, oldest first -/
  usOut : List UpResponse
  /-- MODEL: requests accepted by the memory controller, oldest first, with the part's initiator and downstream tag -/
  dqOut : List Request
  /-- MODEL: bytes shifted out on MISO since CS# last fell -/
  misoOut : List Byte
  /-- MODEL: how many free ordering choices have been consumed -/
  choice : Nat
  deriving DecidableEq, Repr

/-- Nothing in the spec stops the part: errors are statuses, events and counters. No reason is ever raised (safe). -/
inductive Fault
  deriving DecidableEq, Repr

/-- Why a command has no outcome. -/
inductive Refusal where
  /-- Raised by the dispatch alone, for a command whose meaning is not written yet (safe); no arm raises it. -/
  | notModelled (mnemonic : String)
  deriving DecidableEq, Repr

/-! ## Reset values -/

/-- The Reset column of R1. -/
def ChanConfig.reset : ChanConfig where
  intakeBase := 0
  outputBase := 0
  outputDepth := 1
  owner := none
  passraw := true
  schedule := ⟨1, Vector.replicate 4 ⟨0, .position⟩⟩
  filterMode := .off
  limit := 16777215
  persist := 3
  synthPolicy := .project
  nominal := 12500
  avgDepth := 4
  deadlineK := 24
  guardG := 0
  missLimit := 3

/-- The Reset column of R22. -/
def Descriptor.reset : Descriptor where
  frameWords := 1
  tagExpect := 0
  faultMask := 0
  fields := Vector.replicate 4 none

/-- No pending flag set. -/
def PendingFlags.clear : PendingFlags := ⟨false, false, false, false⟩

/-- The Cleared column of R4, R49 and R67; `nominal` is the channel's NOMINAL, the cleared base interval. -/
def Runtime.cleared (nominal : Nat) : Runtime where
  state := .disabled
  stepPtr := 0
  staging := Vector.replicate 4 0
  marks := Vector.replicate 4 false
  frameLen := 1
  width := 1
  pLast := none
  auxStatus := 0
  statusValid := false
  auxWord := 0
  auxValid := false
  ep := 0
  op := 0
  vel := 0
  acc := 0
  cond := .track
  viol := 0
  history := []
  base := nominal
  deadline := none
  lastArrival := none
  miss := 0
  mark := .clean
  nextSeq := 0
  pend := .clear

/-- All nine counters 0 (R151). -/
def Counters.zero : Counters := ⟨0, 0, 0, 0, 0, 0, 0, 0, 0⟩

/-- A channel after a pin reset (R1, R4, R151). -/
def Channel.reset : Channel := ⟨.reset, .cleared 12500, .zero⟩

/-- No frame under way (R170). The spec gives the held command byte no value while none has been received; 0 is the model's
choice (DESIGN CHOICE, log entry 15). -/
def MgmtPort.idle : MgmtPort := ⟨.idle, 0, [], []⟩

/-- The part right after a pin reset has been released (R170, R123, R140, R147), CS# high (log entry 8). -/
def State.reset : State where
  pending := []
  rstAsserted := false
  csLow := false
  tick := 0
  tickDiv := 3
  tickLen := 3
  chans := Vector.replicate 12 .reset
  descs := Vector.replicate 16 .reset
  intake := []
  forward := []
  hold := []
  records := []
  outstanding := []
  table := Vector.replicate 24 ⟨0, none⟩
  sendOrder := []
  offeredInit := none
  lastWinner := .forward
  partInitiator := 15
  respLimit := 65536
  eventMask := BitVec.allOnes 15
  events := []
  overflow := false
  droppedEvents := 0
  stray := 0
  refusedRequests := 0
  mgmt := .idle
  resetting := false
  usOut := []
  dqOut := []
  misoOut := []
  choice := 0

end Sys2Proof.Machine
end

