-- ==== Sys2Proof/Machine/Flags.lean ====
section
/-! DEFINITION. Counters, pending flags, the event mask and record flags (08, R87, R88, R143, R148, R149). -/

namespace Sys2Proof.Machine

/-- A counter's increment: at its greatest value it stays there (R150, R152). -/
def satInc {w : Nat} (c : BitVec w) : BitVec w :=
  if c = BitVec.allOnes w then c else c + 1

/-- The number of an event kind (R148). -/
def EventKind.number : EventKind → Nat
  | .chLost => 0 | .chReacquired => 1 | .chDrained => 2 | .slewBegin => 3 | .slewEnd => 4
  | .frameFault => 5 | .earlyFrame => 6 | .resync => 7 | .recordDropped => 8 | .recordFailed => 9
  | .writeRefused => 10 | .intruder => 11 | .requestRefused => 12 | .strayResponse => 13 | .resetDone => 14

/-- The enable of a kind in EVENT_MASK (R143, R176). -/
def kindEnabled (mask : BitVec 15) (k : EventKind) : Bool := mask.getLsbD k.number

def Counters.bumpFrames (c : Counters) : Counters := { c with frames := satInc c.frames }
def Counters.bumpAuxFrames (c : Counters) : Counters := { c with auxFrames := satInc c.auxFrames }
def Counters.bumpFaults (c : Counters) : Counters := { c with faults := satInc c.faults }
def Counters.bumpEarly (c : Counters) : Counters := { c with early := satInc c.early }
def Counters.bumpSynth (c : Counters) : Counters := { c with synth := satInc c.synth }
def Counters.bumpLimited (c : Counters) : Counters := { c with limited := satInc c.limited }
def Counters.bumpDropped (c : Counters) : Counters := { c with dropped := satInc c.dropped }
def Counters.bumpFailed (c : Counters) : Counters := { c with failed := satInc c.failed }
def Counters.bumpRefused (c : Counters) : Counters := { c with refused := satInc c.refused }

/-- The counters in the order of R162. -/
def Counters.inOrder (c : Counters) : List Half :=
  [c.frames, c.auxFrames, c.faults, c.early, c.synth, c.limited, c.dropped, c.failed, c.refused]

/-- Record kinds (R84). -/
inductive RecordKind where
  | sample | synth | lost
  deriving DecidableEq, Repr

/-- The code of a record kind in word 0 (R173). -/
def RecordKind.code : RecordKind → BitVec 2
  | .sample => 0 | .synth => 1 | .lost => 2

/-- The conditioner flags of one output (R58). -/
structure CondFlags where
  limited : Bool
  slewing : Bool
  priming : Bool
  deriving DecidableEq, Repr

/-- An output that carries no conditioner flag. -/
def CondFlags.none : CondFlags := ⟨false, false, false⟩

/-- Word 0 of a record (R173), from the high bits down: channel, AUX_VALID, STATUS_VALID, NO_POSITION, REACQUIRED, RESYNCED,
FAULT_SEEN, AFTER_SYNTH, PRIMING, SLEWING, LIMITED, kind, sequence number. -/
def recordWord0 (chan : ChanId) (seq : Half) (kind : RecordKind) (cf : CondFlags) (p : PendingFlags)
    (noPosition statusValid auxValid : Bool) : Word :=
  BitVec.ofNat 4 chan.val ++ BitVec.ofBool auxValid ++ BitVec.ofBool statusValid ++ BitVec.ofBool noPosition
    ++ BitVec.ofBool p.reacquired ++ BitVec.ofBool p.resynced ++ BitVec.ofBool p.faultSeen ++ BitVec.ofBool p.afterSynth
    ++ BitVec.ofBool cf.priming ++ BitVec.ofBool cf.slewing ++ BitVec.ofBool cf.limited ++ kind.code ++ seq

/-- V as a record carries it: saturated to signed 32 bits (R85). -/
def saturate32 (v : Pos) : Word :=
  BitVec.ofInt 32 (max (-2147483648) (min v.toInt 2147483647))

end Sys2Proof.Machine
end

