-- ==== Sys2Proof/Machine/Codes.lean ====
section
/-! DEFINITION. The code tables of 10_formats.md: commands, statuses and item counts (R174, R154, R176). -/

namespace Sys2Proof.Machine

/-- The management commands (R154). -/
inductive Cmd where
  | getItem | setItem | enable | disable | getState | getCounters | clearCounters
  | popEvent | clearEvents | getStatus | getTime | softReset
  deriving DecidableEq, Repr

/-- R174, command codes. -/
def Cmd.code : Cmd → Byte
  | .getItem => 0x01 | .setItem => 0x02
  | .enable => 0x10 | .disable => 0x11 | .getState => 0x12 | .getCounters => 0x13 | .clearCounters => 0x14
  | .popEvent => 0x20 | .clearEvents => 0x21
  | .getStatus => 0x30 | .getTime => 0x31 | .softReset => 0x3C

/-- R174: the command a byte names, if it names one. -/
def Cmd.ofCode (b : Byte) : Option Cmd :=
  match b.toNat with
  | 0x01 => some .getItem | 0x02 => some .setItem
  | 0x10 => some .enable | 0x11 => some .disable | 0x12 => some .getState | 0x13 => some .getCounters
  | 0x14 => some .clearCounters
  | 0x20 => some .popEvent | 0x21 => some .clearEvents
  | 0x30 => some .getStatus | 0x31 => some .getTime | 0x3C => some .softReset
  | _ => none

/-- R154: the number of argument bytes. -/
def Cmd.argBytes : Cmd → Nat
  | .getItem => 3 | .setItem => 7
  | .enable | .disable | .getState | .getCounters | .clearCounters => 1
  | .popEvent | .clearEvents | .getStatus | .getTime | .softReset => 0

/-- R154: the number of data bytes of the response, whatever the status. -/
def Cmd.dataBytes : Cmd → Nat
  | .getItem => 4 | .getState => 56 | .getCounters => 18 | .popEvent => 8 | .getStatus => 12 | .getTime => 4
  | .setItem | .enable | .disable | .clearCounters | .clearEvents | .softReset => 0

/-- R157, check 2: the commands answered RESETTING while the part is RESETTING. -/
def Cmd.heldByReset : Cmd → Bool
  | .getStatus | .getTime => false
  | _ => true

/-- The eight statuses (R157). -/
inductive Status where
  | ok | badCommand | badArgument | locked | overlap | invalidConfig | empty | resetting
  deriving DecidableEq, Repr

/-- R174, status codes. -/
def Status.code : Status → Byte
  | .ok => 0x00 | .badCommand => 0x01 | .badArgument => 0x02 | .locked => 0x03
  | .overlap => 0x04 | .invalidConfig => 0x05 | .empty => 0x06 | .resetting => 0x07

/-- R176: how many items each scope byte has (0 GLOBAL, 1 CHANNEL, 2 DESCRIPTOR), and how many indices (R158). -/
def scopeSize (scope : Byte) : Nat × Nat :=
  match scope.toNat with
  | 0 => (1, 4)
  | 1 => (12, 15)
  | 2 => (16, 7)
  | _ => (0, 0)

/-- R158: the selector names an item. -/
def namesItem (scope index item : Byte) : Bool :=
  decide (index.toNat < (scopeSize scope).1) && decide (item.toNat < (scopeSize scope).2)

end Sys2Proof.Machine
end

