-- ==== Sys2Proof/Machine/Operands.lean ====
section
/-! DEFINITION. The operand forms: link requests and their spans (R18, R102, R109, R171), windows (R18, R19), bytes of SPI
values, and the packing of every item (R176, R177). -/

namespace Sys2Proof.Machine

/-! ## Times -/

/-- A time is reached when (now − t) mod 2^32 is below 2^31 (R66). -/
def reached (now t : Word) : Bool := decide ((now - t).toNat < 2147483648)

/-! ## Link requests -/

/-- Data word i of a request's lanes (R171). -/
def laneWord (data : BitVec 128) (i : Nat) : Word := data.extractLsb' (32 * i) 32

/-- The four byte enables of data word i (R171). -/
def laneEnables (be : Half) (i : Nat) : BitVec 4 := be.extractLsb' (4 * i) 4

/-- The xQ_KIND bit (R171): 0 READ, 1 WRITE. -/
def ReqKind.bit : ReqKind → BitVec 1
  | .read => 0 | .write => 1

/-- The kind an xQ_KIND bit gives (R171). -/
def ReqKind.ofBit (b : BitVec 1) : ReqKind := if b = 0 then .read else .write

/-- The byte-enable lanes that belong to a request; all others are 0: every lane of a READ, and the lanes of words at or above
the length (R171). -/
def enableLanes (kind : ReqKind) (len : BitVec 3) (be : Half) : Half :=
  match kind with
  | .read => 0
  | .write => be &&& BitVec.ofNat 16 (2 ^ (4 * len.toNat) - 1)

/-- The data lanes that belong to a request; all others are 0 (R171). -/
def dataLanes (kind : ReqKind) (len : BitVec 3) (data : BitVec 128) : BitVec 128 :=
  match kind with
  | .read => 0
  | .write => data &&& BitVec.ofNat 128 (2 ^ (32 * len.toNat) - 1)

/-- The request the part keeps from a transfer on UQ (R102, R171): lanes of words at or above the length, and every data and
byte-enable lane of a READ, are ignored; the model holds an ignored lane as 0 (log entry 5). -/
def requestOf (kind : BitVec 1) (addr : Word) (len : BitVec 3) (init : BitVec 4) (tag : Byte) (be : Half)
    (data : BitVec 128) : Request :=
  let k := ReqKind.ofBit kind
  { kind := k, addr := addr, len := len, init := init, tag := tag
    be := enableLanes k len be, data := dataLanes k len data }

/-- The signals of a request as the part drives them on DQ (R171): ignored lanes are driven 0. -/
def Request.transfer (r : Request) : RequestTransfer :=
  ⟨r.kind.bit, r.addr, r.len, r.init, r.tag, enableLanes r.kind r.len r.be, dataLanes r.kind r.len r.data⟩

/-- The xS_STATUS code of an upstream status (R172). -/
def UpStatus.code : UpStatus → BitVec 2
  | .ok => 0 | .memoryError => 1 | .refused => 2

/-- Words as one number, word k at bits 32k to 32k + 31 (R172). -/
def packWords : List Word → Nat
  | [] => 0
  | w :: ws => w.toNat + 2 ^ 32 * packWords ws

/-- The signals of a response as the part drives them on US (R172): its data words from lane 0 up, every other lane 0. -/
def UpResponse.transfer (r : UpResponse) : ResponseTransfer :=
  ⟨r.init, r.tag, r.status.code, BitVec.ofNat 256 (packWords r.data)⟩

/-- Two byte ranges, each a start and a size, have at least one address in common (R18, Overlap). -/
def rangesOverlap (a n b m : Nat) : Bool := decide (max a b < min (a + n) (b + m))

/-- A request's span, address to address + 4 × length − 1 (R18), overlaps the range of `size` bytes from `base`. -/
def spanOverlaps (addr : Word) (len : BitVec 3) (base size : Nat) : Bool :=
  rangesOverlap addr.toNat (4 * len.toNat) base size

/-- A request breaks the form rule (R109). -/
def breaksForm (r : Request) : Bool :=
  decide (r.addr.toNat % 4 ≠ 0) || decide (r.len = 0) || decide (16 < r.addr.toNat % 16 + 4 * r.len.toNat)

/-! ## Windows -/

/-- The intake window's lowest address (R18); it is 16 bytes long. -/
def ChanConfig.intakeStart (c : ChanConfig) : Nat := c.intakeBase.toNat

/-- The output area's lowest address (R18). -/
def ChanConfig.outputStart (c : ChanConfig) : Nat := c.outputBase.toNat

/-- The output area's size in bytes, 32 × OUTPUT_DEPTH (R18). -/
def ChanConfig.outputSize (c : ChanConfig) : Nat := 32 * c.outputDepth

/-- Slot s begins at OUTPUT_BASE + 32s (R18). -/
def ChanConfig.slotStart (c : ChanConfig) (slot : Nat) : Nat := c.outputStart + 32 * slot

/-- The intake window is matched in WAITING, RUNNING and LOST (R19). -/
def LifeCycle.intakeMatched : LifeCycle → Bool
  | .waiting | .running | .lost => true
  | .disabled | .draining => false

/-- The output area is matched in every state but DISABLED (R19). -/
def LifeCycle.outputMatched : LifeCycle → Bool
  | .disabled => false
  | .waiting | .running | .lost | .draining => true

/-- Either window of one channel overlaps either window of another (R6, check 8). -/
def windowsClash (a b : ChanConfig) : Bool :=
  rangesOverlap a.intakeStart 16 b.intakeStart 16
    || rangesOverlap a.intakeStart 16 b.outputStart b.outputSize
    || rangesOverlap a.outputStart a.outputSize b.intakeStart 16
    || rangesOverlap a.outputStart a.outputSize b.outputStart b.outputSize

/-- The slot of the output area that a request overlapping it names (R18). -/
def ChanConfig.slotOf (c : ChanConfig) (addr : Word) : Nat := (addr.toNat - c.outputStart) / 32

/-! ## Bytes -/

/-- A value of n bytes, least significant byte first (R153). -/
def leBytes (n : Nat) (x : Nat) : List Byte := (List.range n).map fun i => BitVec.ofNat 8 (x / 256 ^ i)

/-- The number that bytes spell, least significant byte first. -/
def leNat : List Byte → Nat
  | [] => 0
  | b :: bs => b.toNat + 256 * leNat bs

/-- The channel a channel argument names (R157, check 3). -/
def channelOf (b : Byte) : Option ChanId := if h : b.toNat < 12 then some ⟨b.toNat, h⟩ else none

/-! ## SCHEDULE and FIELD packing (R177) -/

/-- The step packed in bits 6k to 6k+4. -/
def stepOf (v : Word) (k : Nat) : SchedStep :=
  ⟨(v.extractLsb' (6 * k) 4).toFin, if v.getLsbD (6 * k + 4) then .aux else .position⟩

/-- The zero bits of a SCHEDULE word: 5, 11, 17, 23 and 27 to 31. -/
def scheduleZeroBits : Word := 0xF8820820

/-- The steps of a schedule word as they are stored: those at or above the length are (0, POSITION) (R3). -/
def scheduleSteps (v : Word) (len : Nat) : Vector SchedStep 4 :=
  Vector.ofFn fun k : Fin 4 => if k.val < len then stepOf v k.val else ⟨0, .position⟩

/-- SCHEDULE from its word; none is out of range (R3, R177). -/
def unpackSchedule (v : Word) : Option Schedule :=
  let len := (v.extractLsb' 24 3).toNat
  if v &&& scheduleZeroBits = 0 ∧ 1 ≤ len ∧ len ≤ 4 then some ⟨len, scheduleSteps v len⟩ else none

/-- A step's six bits. -/
def packStep (s : SchedStep) : Nat := s.desc.val + (match s.kind with | .position => 0 | .aux => 16)

/-- SCHEDULE as its word (R177). -/
def packSchedule (s : Schedule) : Word :=
  BitVec.ofNat 32 (packStep s.steps[0] + 64 * packStep s.steps[1] + 4096 * packStep s.steps[2]
    + 262144 * packStep s.steps[3] + 16777216 * s.len)

/-- Role codes (R177). -/
def Role.code : Role → Nat
  | .position => 0 | .turns => 1 | .status => 2 | .fault => 3 | .tag => 4 | .auxdata => 5

/-- The role a code names (R177). -/
def Role.ofCode : Nat → Option Role
  | 0 => some .position | 1 => some .turns | 2 => some .status | 3 => some .fault | 4 => some .tag | 5 => some .auxdata
  | _ => none

/-- Encoding codes (R177). -/
def Encoding.code : Encoding → Nat
  | .binary => 0 | .signed => 1 | .gray => 2

/-- The encoding a code names (R177). -/
def Encoding.ofCode : Nat → Option Encoding
  | 0 => some .binary | 1 => some .signed | 2 => some .gray
  | _ => none

/-- The zero bits of a FIELD word: 6, 7, 13 to 15, 22, 23 and 26 to 31. -/
def fieldZeroBits : Word := 0xFCC0E0C0

/-- A field slot from its word: the outer none is out of range, the inner none an absent slot (R23, R177). -/
def unpackField (v : Word) : Option (Option FieldSlot) :=
  if v &&& fieldZeroBits ≠ 0 then none
  else if v.getLsbD 0 = false then some none
  else
    let width := (v.extractLsb' 16 6).toNat
    match Role.ofCode (v.extractLsb' 1 3).toNat, Encoding.ofCode (v.extractLsb' 24 2).toNat with
    | some role, some enc =>
      if 1 ≤ width ∧ width ≤ 32 then
        some (some ⟨role, (v.extractLsb' 4 2).toNat, (v.extractLsb' 8 5).toNat, width, enc⟩)
      else none
    | _, _ => none

/-- A field slot as its word; an absent slot reads as 0x00010000 (R23, R177). -/
def packField : Option FieldSlot → Word
  | none => 0x00010000
  | some f => BitVec.ofNat 32 (1 + 2 * f.role.code + 16 * f.word + 256 * f.start + 65536 * f.width + 16777216 * f.encoding.code)

/-! ## Items (R176) -/

/-- FILTER_MODE codes. -/
def FilterMode.code : FilterMode → Nat
  | .off => 0 | .rate => 1 | .curve => 2

/-- SYNTH_POLICY codes. -/
def SynthPolicy.code : SynthPolicy → Nat
  | .project => 0 | .hold => 1

/-- The packed value of channel item `n` (R176); none where n names no item. -/
def ChanConfig.getItem (c : ChanConfig) (n : Nat) : Option Word :=
  match n with
  | 0 => some c.intakeBase
  | 1 => some c.outputBase
  | 2 => some (BitVec.ofNat 32 c.outputDepth)
  | 3 => some (match c.owner with | none => 16 | some i => i.setWidth 32)
  | 4 => some (if c.passraw then 1 else 0)
  | 5 => some (packSchedule c.schedule)
  | 6 => some (BitVec.ofNat 32 c.filterMode.code)
  | 7 => some (BitVec.ofNat 32 c.limit)
  | 8 => some (BitVec.ofNat 32 c.persist)
  | 9 => some (BitVec.ofNat 32 c.synthPolicy.code)
  | 10 => some (BitVec.ofNat 32 c.nominal)
  | 11 => some (BitVec.ofNat 32 c.avgDepth)
  | 12 => some (BitVec.ofNat 32 c.deadlineK)
  | 13 => some (BitVec.ofNat 32 c.guardG)
  | 14 => some (BitVec.ofNat 32 c.missLimit)
  | _ => none

/-- Channel item `n` set to the packed value `v`; none where the value is out of the item's range (R1, R2, R3, R176). -/
def ChanConfig.setItem (c : ChanConfig) (n : Nat) (v : Word) : Option ChanConfig :=
  let x := v.toNat
  match n with
  | 0 => if x % 16 = 0 then some { c with intakeBase := v } else none
  | 1 => if x % 32 = 0 then some { c with outputBase := v } else none
  | 2 => if x = 1 ∨ x = 2 ∨ x = 4 ∨ x = 8 ∨ x = 16 then some { c with outputDepth := x } else none
  | 3 => if x < 16 then some { c with owner := some (v.setWidth 4) }
         else if x = 16 then some { c with owner := none } else none
  | 4 => if x = 0 then some { c with passraw := false } else if x = 1 then some { c with passraw := true } else none
  | 5 => (unpackSchedule v).map fun sch => { c with schedule := sch }
  | 6 => if x = 0 then some { c with filterMode := .off }
         else if x = 1 then some { c with filterMode := .rate }
         else if x = 2 then some { c with filterMode := .curve } else none
  | 7 => if 1 ≤ x ∧ x ≤ Config.max24 then some { c with limit := x } else none
  | 8 => if 1 ≤ x ∧ x ≤ 15 then some { c with persist := x } else none
  | 9 => if x = 0 then some { c with synthPolicy := .project }
         else if x = 1 then some { c with synthPolicy := .hold } else none
  | 10 => if 16 ≤ x ∧ x ≤ Config.max24 then some { c with nominal := x } else none
  | 11 => if x = 1 ∨ x = 2 ∨ x = 4 ∨ x = 8 then some { c with avgDepth := x } else none
  | 12 => if 17 ≤ x ∧ x ≤ 64 then some { c with deadlineK := x } else none
  | 13 => if x ≤ 15 then some { c with guardG := x } else none
  | 14 => if 1 ≤ x ∧ x ≤ 15 then some { c with missLimit := x } else none
  | _ => none

/-- The packed value of descriptor item `n` (R22, R176). -/
def Descriptor.getItem (d : Descriptor) (n : Nat) : Option Word :=
  match n with
  | 0 => some (BitVec.ofNat 32 d.frameWords)
  | 1 => some (d.tagExpect.setWidth 32)
  | 2 => some d.faultMask
  | 3 => some (packField d.fields[0])
  | 4 => some (packField d.fields[1])
  | 5 => some (packField d.fields[2])
  | 6 => some (packField d.fields[3])
  | _ => none

/-- Descriptor item `n` set to the packed value `v`; none where the value is out of range (R22, R23, R24). -/
def Descriptor.setItem (d : Descriptor) (n : Nat) (v : Word) : Option Descriptor :=
  match n with
  | 0 => if 1 ≤ v.toNat ∧ v.toNat ≤ 4 then some { d with frameWords := v.toNat } else none
  | 1 => if v.toNat ≤ 255 then some { d with tagExpect := v.setWidth 8 } else none
  | 2 => some { d with faultMask := v }
  | 3 => (unpackField v).map fun f => { d with fields := d.fields.set 0 f }
  | 4 => (unpackField v).map fun f => { d with fields := d.fields.set 1 f }
  | 5 => (unpackField v).map fun f => { d with fields := d.fields.set 2 f }
  | 6 => (unpackField v).map fun f => { d with fields := d.fields.set 3 f }
  | _ => none

end Sys2Proof.Machine
end

