-- ==== Sys2Proof/Machine/Ops.lean ====
section
/-! DEFINITION. The named operations on the state that the meanings share: channels, events, counters, the Tracking Table,
reservations, held reads, the drain test and upstream responses. -/

namespace Sys2Proof.Machine

/-! ## Channels and descriptors -/

/-- One channel. -/
def State.chan (s : State) (c : ChanId) : Channel := s.chans[c]

/-- One channel replaced. -/
def State.setChan (s : State) (c : ChanId) (ch : Channel) : State := { s with chans := s.chans.set c ch }

/-- One channel's counters changed by an increment (R149). -/
def State.bumpCtr (s : State) (c : ChanId) (f : Counters → Counters) : State :=
  s.setChan c { s.chan c with ctr := f (s.chan c).ctr }

/-- A step of a schedule lies below its length (R3). -/
def Schedule.active (sch : Schedule) (k : Fin 4) : Bool := decide (k.val < sch.len)

/-- The schedule names a descriptor in a step below its length (R24). -/
def Schedule.names (sch : Schedule) (d : DescId) : Bool :=
  (List.finRange 4).any fun k => sch.active k && sch.steps[k].desc == d

/-- A channel that is not DISABLED names the descriptor: it is locked (R24). -/
def State.descLocked (s : State) (d : DescId) : Bool :=
  (List.finRange 12).any fun c => (s.chan c).rt.state != .disabled && (s.chan c).cfg.schedule.names d

/-- All twelve channels are DISABLED (R65). -/
def State.allDisabled (s : State) : Bool :=
  (List.finRange 12).all fun c => (s.chan c).rt.state == .disabled

/-! ## Events (R142 to R144) -/

/-- One event taken by the Event Unit: masked, entered with the tick count of the moment, or dropped (R142, R144). -/
def State.logEvent (s : State) (e : RawEvent) : State :=
  if kindEnabled s.eventMask e.kind then
    if s.events.length < Config.eventCap then
      { s with events := s.events ++ [⟨e.kind, e.chan, s.tick, e.detail⟩] }
    else { s with overflow := true, droppedEvents := satInc s.droppedEvents }
  else s

/-- Events taken one after the other. -/
def State.logAll (s : State) (es : List RawEvent) : State := es.foldl State.logEvent s

/-- The order in which the events of one happening are entered. Each inner list is what one block (or two blocks whose order
a rule fixes, R57) raises, in its order; while more than one has an event left, which goes next is the free choice
`Config.eventOrder k` (R142: either order; log entry 3). Answers the order and how many choices have been consumed.
`fuel` bounds the number of events. -/
def mergeOrder : Nat → Nat → List (List RawEvent) → List RawEvent × Nat
  | 0, k, _ => ([], k)
  | fuel + 1, k, qs =>
    match qs.filter (fun q => !q.isEmpty) with
    | [] => ([], k)
    | [q] => (q, k)
    | q :: q' :: rest =>
      let live := q :: q' :: rest
      let i := Config.eventOrder k % live.length
      match live[i]? with
      | some (e :: es) =>
        let r := mergeOrder fuel (k + 1) (live.set i es)
        (e :: r.1, r.2)
      | _ => ([], k)

/-- The events of one happening, entered block by block in a free order (R142). -/
def State.raise (s : State) (qs : List (List RawEvent)) : State :=
  let r := mergeOrder qs.flatten.length s.choice qs
  State.logAll { s with choice := r.2 } r.1

/-- The Event Unit asserts EVT#, driving it low, while the FIFO holds an entry (R146). -/
def State.evtLow (s : State) : Bool := !s.rstAsserted && !s.events.isEmpty

/-! ## Reservations and held reads (R93, R101) -/

/-- A slot is reserved while a queued or outstanding record names it (R93). -/
def State.reserved (s : State) (c : ChanId) (slot : Nat) : Bool :=
  s.records.any (fun r => r.chan == c && r.slot == slot)
    || s.outstanding.any (fun o => o.chan == c && o.slot == slot)

/-- A held read of the slot becomes RELEASED. -/
def HoldEntry.release (c : ChanId) (slot : Nat) (h : HoldEntry) : HoldEntry :=
  if h.chan = c ∧ h.slot = slot then { h with cond := .released } else h

/-- A record that named the slot has reached its end: when no other record holds the reservation, every read held for the
slot is released, each staying in its place (R101). -/
def State.endReservation (s : State) (c : ChanId) (slot : Nat) : State :=
  if s.reserved c slot then s else { s with hold := s.hold.map (HoldEntry.release c slot) }

/-- A RELEASED read waits on the Hold List (R120). -/
def State.releasedWaiting (s : State) : Bool := s.hold.any fun h => h.cond == .released

/-- A RELEASED read waits and the Forward Queue has a free entry for it: its move is made before the Classifier takes the next
request at the head (R101). -/
def State.moveDue (s : State) : Bool := s.releasedWaiting && decide (s.forward.length < Config.forwardCap)

/-- An outcome that needs a Forward Queue entry finds one: an entry is free and no RELEASED read waits (R107, R120). -/
def State.forwardRoom (s : State) : Bool := decide (s.forward.length < Config.forwardCap) && !s.releasedWaiting

/-! ## Tracking Table (R124, R125, R135) -/

/-- One entry of the Tracking Table. -/
def State.entry (s : State) (e : EntryId) : Entry := s.table[e]

/-- One entry replaced. -/
def State.setEntry (s : State) (e : EntryId) (x : Entry) : State := { s with table := s.table.set e x }

/-- The free entries, lowest number first (R127). -/
def State.freeEntries (s : State) : List EntryId := (List.finRange 24).filter fun e => (s.entry e).tx.isNone

/-- The entries in use, orphans included (R124). -/
def State.inUse (s : State) : List EntryId := (List.finRange 24).filter fun e => (s.entry e).tx.isSome

/-- A freed entry: free, its generation advanced by 1 modulo 8 (R135). -/
def Entry.freed (x : Entry) : Entry := ⟨x.gen + 1, none⟩

/-- The downstream tag of an entry: its index plus 24 × its generation (R125). -/
def downTag (e : EntryId) (gen : BitVec 3) : Byte := BitVec.ofNat 8 (e.val + 24 * gen.toNat)

/-- The entry and generation a tag below 192 names; a tag of 192 or above names none (R125). -/
def tagTarget (t : Byte) : Option (EntryId × BitVec 3) :=
  if t.toNat < 192 then some (⟨t.toNat % 24, Nat.mod_lt _ (by decide)⟩, BitVec.ofNat 3 (t.toNat / 24)) else none

/-! ## Drain (R16) -/

/-- An entry in use that is not an orphan and has the origin RECORD for the channel (R16). -/
def Entry.holdsDrain (c : ChanId) (x : Entry) : Bool :=
  match x.tx with
  | some t => !t.orphan && (match t.origin with | .record c' _ _ => c' == c | .forward _ _ => false)
  | none => false

/-- The three parts of the drain condition (R16). -/
def State.drained (s : State) (c : ChanId) : Bool :=
  s.records.all (fun r => r.chan != c)
    && (List.finRange 24).all (fun e => !(s.entry e).holdsDrain c)
    && s.hold.all (fun h => h.chan != c)

/-- The Channel Table's test: a DRAINING channel that meets the condition becomes DISABLED, and CH_DRAINED is raised (R16).
Answers the state and the event, which the happening enters. -/
def State.drainTest (s : State) (c : ChanId) : State × List RawEvent :=
  let ch := s.chan c
  if ch.rt.state = .draining ∧ s.drained c = true then
    (s.setChan c { ch with rt := { ch.rt with state := .disabled } }, [⟨.chDrained, some c, 0⟩])
  else (s, [])

/-! ## Upstream responses (R103, R122) -/

/-- A response placed on the upstream link, in the happening that produces it (R104). -/
def State.respond (s : State) (r : UpResponse) : State := { s with usOut := s.usOut ++ [r] }

/-- The data words of an answer without data: zeros, as many as a read's length; none for a write (R103). -/
def zeroData (kind : ReqKind) (len : BitVec 3) : List Word :=
  match kind with
  | .read => List.replicate len.toNat 0
  | .write => []

/-- The data words of a downstream answer, in word order up to a read's length (R122, R133). -/
def readData (kind : ReqKind) (len : BitVec 3) (data : BitVec 128) : List Word :=
  match kind with
  | .read => (List.range len.toNat).map (laneWord data)
  | .write => []

/-- The part's own answer REFUSED (R103). -/
def Request.refusal (r : Request) : UpResponse := ⟨r.init, r.tag, .refused, zeroData r.kind r.len⟩

/-- The part's own answer OK to an absorbed intake write (R113). -/
def Request.absorbed (r : Request) : UpResponse := ⟨r.init, r.tag, .ok, zeroData r.kind r.len⟩

/-! ## Pins that follow other state -/

/-- The transfers the part has completed on US, oldest first, as signals (R172). -/
def State.usTransfers (s : State) : List ResponseTransfer := s.usOut.map UpResponse.transfer

/-- The transfers completed on DQ, oldest first, as signals (R171). -/
def State.dqTransfers (s : State) : List RequestTransfer := s.dqOut.map Request.transfer

/-- The Upstream Port takes the request offered (R105, R106, R123). -/
def State.uqAccept (s : State) : Bool :=
  !s.rstAsserted && !s.resetting && decide (s.intake.length < Config.intakeCap)

/-- MISO is driven in every frame state but IDLE (R153). -/
def State.misoDriven (s : State) : Bool := s.mgmt.frame != .idle

end Sys2Proof.Machine
end

