-- ==== Sys2Proof/Machine/RecordUnit.lean ====
section
/-! DEFINITION. The Record Unit (05_output_records.md): building, queueing, claiming, settling and discarding records. -/

namespace Sys2Proof.Machine

/-- The eight words of a record (R85, R173). -/
def recordWords (c : ChanId) (rt : Runtime) (kind : RecordKind) (cf : CondFlags) (noPosition : Bool) (time : Word) :
    Vector Word 8 :=
  Vector.ofFn fun k : Fin 8 =>
    match k.val with
    | 0 => recordWord0 c rt.nextSeq kind cf rt.pend noPosition rt.statusValid rt.auxValid
    | 1 => rt.op.extractLsb' 0 32
    | 2 => rt.auxStatus ++ rt.op.extractLsb' 32 16
    | 3 => time
    | 4 => rt.ep.extractLsb' 0 32
    | 5 => rt.nextSeq ++ rt.ep.extractLsb' 32 16
    | 6 => saturate32 rt.vel
    | _ => rt.auxWord

/-- The record a channel generates (R85, R89, R90). -/
def buildRecord (c : ChanId) (ch : Channel) (kind : RecordKind) (cf : CondFlags) (noPosition : Bool) (time : Word) : Record :=
  ⟨c, ch.rt.nextSeq, ch.rt.nextSeq.toNat % ch.cfg.outputDepth, recordWords c ch.rt kind cf noPosition time⟩

/-- At each generation the sequence number is consumed and the pending flags cleared (R88, R89). -/
def Runtime.afterRecord (rt : Runtime) : Runtime := { rt with nextSeq := rt.nextSeq + 1, pend := .clear }

/-- A record is generated from the channel as it stands and offered to the Record Queue: it joins, or it is dropped with
DROPPED counted and RECORD_DROPPED raised (R84, R91, R92). Answers the state and the event. -/
def State.generate (s : State) (c : ChanId) (kind : RecordKind) (cf : CondFlags) (noPosition : Bool) (time : Word) :
    State × List RawEvent :=
  let ch := s.chan c
  let r := buildRecord c ch kind cf noPosition time
  let s1 := s.setChan c { ch with rt := ch.rt.afterRecord }
  if s.records.length < Config.recordCap then ({ s1 with records := s1.records ++ [r] }, [])
  else (s1.bumpCtr c Counters.bumpDropped, [⟨.recordDropped, some c, r.seq⟩])

/-! ## Eligibility and the claim (R94, R95) -/

/-- An entry in use, orphan or not, whose span overlaps the range (R94). -/
def Entry.touches (base size : Nat) (x : Entry) : Bool :=
  match x.tx with
  | some t => spanOverlaps t.addr t.len base size
  | none => false

/-- Something the record's slot must wait for (R94): a Tracking Table entry, a Forward Queue request, a RELEASED read. -/
def State.slotBusy (s : State) (base : Nat) : Bool :=
  (List.finRange 24).any (fun e => (s.entry e).touches base 32)
    || s.forward.any (fun r => spanOverlaps r.addr r.len base 32)
    || s.hold.any (fun h => h.cond == .released && spanOverlaps h.req.addr h.req.len base 32)

/-- Where a queued record's slot begins (R90). -/
def State.recordStart (s : State) (r : Record) : Nat := (s.chan r.chan).cfg.slotStart r.slot

/-- A queued record is eligible (R94). -/
def State.eligible (s : State) (r : Record) : Bool := !s.slotBusy (s.recordStart r)

/-- The Record Unit's claim: the place in the queue of the oldest eligible record (R95). -/
def State.claim (s : State) : Option Nat := s.records.findIdx? s.eligible

/-! ## Settlement (R97, R98) -/

/-- The outcome of one half is entered. -/
def OutRecord.endHalf (o : OutRecord) (h : RecHalf) (x : HalfOutcome) : OutRecord :=
  match h with
  | .first => { o with first := x }
  | .second => { o with second := x }

/-- Neither half is awaiting (R97). -/
def OutRecord.settled (o : OutRecord) : Bool := o.first != .awaiting && o.second != .awaiting

/-- Both halves ended OK (R97). -/
def OutRecord.written (o : OutRecord) : Bool := o.first == .ok && o.second == .ok

/-- The reason of a failure: 1 MEMORY_ERROR when either half ended so, otherwise 2 TIMEOUT (R98). -/
def OutRecord.failReason (o : OutRecord) : Half :=
  if o.first = .memoryError ∨ o.second = .memoryError then 1 else 2

/-- An outstanding record is known by its channel and sequence number (R96; log entry 14). -/
def OutRecord.isOf (c : ChanId) (q : Half) (o : OutRecord) : Bool := o.chan == c && o.seq == q

/-- The Downstream Port reports the end of a half (R97): the record settles when its other half has ended too, and then it
is written, or has failed with FAILED counted and RECORD_FAILED raised (R98), and its hold on the reservation ends (R101). -/
def State.endHalf (s : State) (c : ChanId) (q : Half) (h : RecHalf) (x : HalfOutcome) : State × List RawEvent :=
  match s.outstanding.findIdx? (OutRecord.isOf c q) with
  | none => (s, [])
  | some i =>
    match s.outstanding[i]? with
    | none => (s, [])
    | some o =>
      let o' := o.endHalf h x
      if o'.settled then
        let s1 := { s with outstanding := s.outstanding.eraseIdx i }
        if o'.written then (s1.endReservation c o.slot, [])
        else ((s1.bumpCtr c Counters.bumpFailed).endReservation c o.slot, [⟨.recordFailed, some c, o'.failReason⟩])
      else ({ s with outstanding := s.outstanding.set i o' }, [])

/-! ## Discard (R99, R14) -/

/-- Every queued record of the channel is removed from the Record Queue, and the reservations they alone held end (R99). -/
def State.discard (s : State) (c : ChanId) : State :=
  let gone := s.records.filter fun r => r.chan == c
  let s1 := { s with records := s.records.filter fun r => r.chan != c }
  gone.foldl (fun t r => t.endReservation c r.slot) s1

end Sys2Proof.Machine
end

