-- ==== Sys2Proof/Machine/Downstream.lean ====
section
/-! DEFINITION. The Downstream Port (07_downstream_port.md): GRANT, ISSUE, RESPONSE and TIMEOUT. -/

namespace Sys2Proof.Machine

/-! ## The arbiter -/

/-- Record priority is in force (R129). -/
def State.recordPriority (s : State) : Bool := decide (Config.priorityMark ≤ s.records.length) && s.claim.isSome

/-- The claimant a grant goes to, if there is one (R127, R128). -/
def State.grantee (s : State) : Option Claimant :=
  let free := s.freeEntries.length
  if s.forward.isEmpty then
    if s.claim.isSome ∧ 2 ≤ free then some .record else none
  else if s.claim.isSome then
    if s.recordPriority then (if 2 ≤ free then some .record else none)
    else if 2 ≤ free then (match s.lastWinner with | .forward => some .record | .record => some .forward)
    else if 1 ≤ free then some .forward else none
  else if 1 ≤ free then some .forward else none

/-- Entries join the send order; the first of an empty order is offered at once, with the PART_INITIATOR in force (R126,
R130; log entry 6). -/
def State.joinSend (s : State) (es : List EntryId) : State :=
  { s with
    sendOrder := s.sendOrder ++ es
    offeredInit := if s.sendOrder.isEmpty then some s.partInitiator else s.offeredInit }

/-- An entry becomes in use, GRANTED (R127); its generation stands. -/
def State.take (s : State) (e : EntryId) (t : Transaction) : State := s.setEntry e ⟨(s.entry e).gen, some t⟩

/-- The transaction of a relayed request (R126). -/
def Request.transaction (r : Request) : Transaction :=
  ⟨.granted r.be r.data, false, .forward r.init r.tag, r.kind, r.addr, r.len⟩

/-- The 128 data bits of four words of a record, from word k (R171). -/
def recordLanes (words : Vector Word 8) (k : Fin 5) : BitVec 128 :=
  words[k.val + 3] ++ words[k.val + 2] ++ words[k.val + 1] ++ words[k.val]

/-- The transaction of a record half: a four-word write, all byte enables set (R96, R126). -/
def Record.transaction (r : Record) (slotStart : Nat) (h : RecHalf) : Transaction :=
  match h with
  | .first => ⟨.granted 0xFFFF (recordLanes r.words 0), false, .record r.chan r.seq .first, .write,
      BitVec.ofNat 32 slotStart, 4⟩
  | .second => ⟨.granted 0xFFFF (recordLanes r.words 4), false, .record r.chan r.seq .second, .write,
      BitVec.ofNat 32 (slotStart + 16), 4⟩

/-- Grant to the forward claim (R127). -/
def State.grantForward (s : State) : State :=
  match s.forward, s.freeEntries with
  | r :: rest, e :: _ =>
    { ({ s with forward := rest }.take e r.transaction).joinSend [e] with lastWinner := .forward }
  | _, _ => s

/-- Grant to the record claim (R127, R96): the record named by the claim leaves the queue and becomes outstanding. -/
def State.grantRecord (s : State) : State :=
  match s.claim, s.freeEntries with
  | some i, a :: b :: _ =>
    match s.records[i]? with
    | some r =>
      let start := s.recordStart r
      let s1 : State := { s with
        records := s.records.eraseIdx i
        outstanding := s.outstanding ++ [⟨r.chan, r.seq, r.slot, .awaiting, .awaiting⟩] }
      { ((s1.take a (r.transaction start .first)).take b (r.transaction start .second)).joinSend [a, b] with
        lastWinner := .record }
    | none => s
  | _, _ => s

/-- GRANT (R127 to R129): taken when a claimant can be served. -/
def execGrant (s : State) : Host.Outcome State Fault Refusal :=
  .next (if s.rstAsserted then s else
    match s.grantee with
    | none => s
    | some .forward => s.grantForward
    | some .record => s.grantRecord)

/-! ## Placing requests -/

/-- The request on the downstream link for a GRANTED transaction (R126, R171). -/
def Transaction.request (t : Transaction) (e : EntryId) (gen : BitVec 3) (init : BitVec 4) : Option Request :=
  match t.phase with
  | .granted be data => some ⟨t.kind, t.addr, t.len, be, init, downTag e gen, data⟩
  | .issued _ _ => none

/-- The request now offered on the downstream link: the oldest of the send order (R130). -/
def State.dqOffer (s : State) : Option Request :=
  match s.sendOrder, s.offeredInit with
  | e :: _, some init => (s.entry e).tx.bind fun t => t.request e (s.entry e).gen init
  | _, _ => none

/-- The DQ request group now driven, while DQ_VALID is set (R171). -/
def State.dqPins (s : State) : Option RequestTransfer := s.dqOffer.map Request.transfer

/-- ISSUE (R130): the memory controller accepts the request offered; its entry becomes ISSUED with the tick count and the
RESP_LIMIT in force, its byte enables and data are no longer kept (R124), and the next is offered. -/
def execIssue (s : State) : Host.Outcome State Fault Refusal :=
  .next (if s.rstAsserted then s else
    match s.sendOrder, s.dqOffer with
    | e :: rest, some q =>
      match (s.entry e).tx with
      | some t =>
        { (s.take e { t with phase := .issued s.tick s.respLimit }) with
          sendOrder := rest
          offeredInit := if rest.isEmpty then none else some s.partInitiator
          dqOut := s.dqOut ++ [q] }
      | none => s
    | _, _ => s)

/-! ## Responses and timeouts -/

/-- The ISSUED entry a response's tag matches, with its transaction (R132). -/
def State.matchTag (s : State) (tag : Byte) : Option (EntryId × Transaction) :=
  match tagTarget tag with
  | none => none
  | some (e, g) =>
    match (s.entry e).tx with
    | some t =>
      match t.phase with
      | .issued _ _ => if (s.entry e).gen = g then some (e, t) else none
      | .granted _ _ => none
    | none => none

/-- An entry freed, its generation advanced (R135). -/
def State.freeEntry (s : State) (e : EntryId) : State := s.setEntry e (s.entry e).freed

/-- A stray response: STRAY counted and STRAY_RESPONSE raised with the tag (R138). -/
def State.strayResponse (s : State) (tag : Byte) : State :=
  { s with stray := satInc s.stray }.raise [[⟨.strayResponse, none, tag.setWidth 16⟩]]

/-- The end of a record half: the Record Unit's settlement and the drain test, the events entered in either order
(R97, R98, R16). -/
def State.halfEnded (s : State) (c : ChanId) (q : Half) (h : RecHalf) (x : HalfOutcome) : State :=
  let r := s.endHalf c q h x
  let t := r.1.drainTest c
  t.1.raise [r.2, t.2]

/-- A response that completes a transaction (R133, R134); the entry is freed (R135). -/
def State.completeTx (s : State) (e : EntryId) (t : Transaction) (status : BitVec 2) (data : BitVec 128) : State :=
  match t.origin with
  | .forward init tag =>
    (s.freeEntry e).respond
      (if status = 0 then ⟨init, tag, .ok, readData t.kind t.len data⟩ else ⟨init, tag, .memoryError, zeroData t.kind t.len⟩)
  | .record c q h => (s.freeEntry e).halfEnded c q h (if status = 0 then .ok else .memoryError)

/-- RESPONSE (R132 to R138). The initiator field is not compared with anything. -/
def execResponse (_init : BitVec 4) (tag : Byte) (status : BitVec 2) (data : BitVec 128) (s : State) :
    Host.Outcome State Fault Refusal :=
  .next (if s.rstAsserted then s else
    match s.matchTag tag with
    | some (e, t) => if t.orphan then (s.freeEntry e).strayResponse tag else s.completeTx e t status data
    | none => s.strayResponse tag)

/-- An entry's transaction becomes an orphan and stays in use with all its fields; what it served is told (R136). -/
def State.orphanTx (s : State) (e : EntryId) (t : Transaction) : State :=
  let s1 := s.take e { t with orphan := true }
  match t.origin with
  | .forward init tag => s1.respond ⟨init, tag, .memoryError, zeroData t.kind t.len⟩
  | .record c q h => s1.halfEnded c q h .timeout

/-- TIMEOUT (R136): an ISSUED entry that is no orphan reaches its issue stamp plus its limit. -/
def execTimeout (entry : EntryId) (s : State) : Host.Outcome State Fault Refusal :=
  .next (match (s.entry entry).tx with
    | none => s
    | some t =>
      match t.phase with
      | .granted _ _ => s
      | .issued stamp limit =>
        if t.orphan = false ∧ s.rstAsserted = false ∧ reached s.tick (stamp + BitVec.ofNat 32 limit) = true
        then s.orphanTx entry t else s)

end Sys2Proof.Machine
end

