-- ==== Sys2Proof/Machine/Mgmt.lean ====
section
/-! DEFINITION. The taking of a management command (09_management_port.md, R153 to R157): the moment its last byte arrives, the
common checks and the response. -/

namespace Sys2Proof.Machine

/-- What a command's own rule gives: the state, the status, and the data bytes when the status is OK. -/
structure Answer where
  state : State
  status : Status
  data : List Byte
  deriving DecidableEq, Repr

/-- The complete byte now arriving is the last of the command `cmd` with the argument bytes `args`: in COMMAND for a command
without arguments, in ARGUMENTS with all argument bytes but the last received (R153, R155; log entry 12). -/
def State.atLastByte (s : State) (cmd : Cmd) (args : List Byte) : Bool :=
  !s.rstAsserted &&
    (if args.isEmpty then s.mgmt.frame == .command
     else s.mgmt.frame == .arguments && s.mgmt.cmd == cmd.code && s.mgmt.args == args.dropLast)

/-- The response is fixed: the status byte and the data bytes, all 0 when the status is not OK (R154, R155). MISO carried
0x00 while the byte arrived (R153). No rule says whether the port still holds the command and argument bytes once the command
is taken; the model keeps the command byte and drops the argument bytes (DESIGN CHOICE, log entry 16). -/
def State.answer (s : State) (cmd : Cmd) (st : Status) (data : List Byte) : State :=
  { s with
    mgmt := ⟨.response, cmd.code, [], st.code :: (if st = .ok then data else List.replicate cmd.dataBytes 0)⟩
    misoOut := s.misoOut ++ [0] }

/-- A command is taken: RESETTING where the part is RESETTING, otherwise by its own rule (R155, R157 check 2). -/
def State.takeCommand (s : State) (cmd : Cmd) (rule : State → Answer) : State :=
  if s.resetting && cmd.heldByReset then s.answer cmd .resetting []
  else (rule s).state.answer cmd (rule s).status (rule s).data

/-- The row of a command: taken when its last byte arrives, otherwise not this happening (log entry 1). -/
def State.row (s : State) (cmd : Cmd) (args : List Byte) (rule : State → Answer) : State :=
  if s.atLastByte cmd args then s.takeCommand cmd rule else s

/-- A channel argument above 11 is answered BAD_ARGUMENT (R157, check 3). -/
def withChannel (b : Byte) (rule : ChanId → State → Answer) (s : State) : Answer :=
  match channelOf b with
  | some c => rule c s
  | none => ⟨s, .badArgument, []⟩

/-- The answer to a command byte that names no command: the status byte alone (R154). The byte is kept as the command byte
(DESIGN CHOICE, log entry 16). -/
def State.answerBad (s : State) (code : Byte) : State :=
  { s with mgmt := ⟨.response, code, [], [Status.badCommand.code]⟩, misoOut := s.misoOut ++ [0] }

/-- BAD_COMMAND (R154): in COMMAND, a byte that names no command. -/
def execBadCommand (code : Byte) (s : State) : Host.Outcome State Fault Refusal :=
  .next (if s.rstAsserted = false ∧ s.mgmt.frame = .command ∧ Cmd.ofCode code = none then s.answerBad code else s)

end Sys2Proof.Machine
end

