-- ==== Sys2Proof/Machine/Items.lean ====
section
/-! DEFINITION. The item commands (9.2, 10.4): GET_ITEM, SET_ITEM and the SET_ITEM of each owner. -/

namespace Sys2Proof.Machine

/-- The packed value of a global item (R176). -/
def State.getGlobal (s : State) (n : Nat) : Option Word :=
  match n with
  | 0 => some (s.tickDiv.setWidth 32)
  | 1 => some (s.partInitiator.setWidth 32)
  | 2 => some (BitVec.ofNat 32 s.respLimit)
  | 3 => some (s.eventMask.setWidth 32)
  | _ => none

/-- The item a selector names, as it stands (R158, R176); none where it names no item. -/
def State.itemValue (s : State) (scope index item : Byte) : Option Word :=
  match scope.toNat with
  | 0 => if index = 0 then s.getGlobal item.toNat else none
  | 1 => if h : index.toNat < 12 then (s.chan ⟨index.toNat, h⟩).cfg.getItem item.toNat else none
  | 2 => if h : index.toNat < 16 then (s.descs[index.toNat]).getItem item.toNat else none
  | _ => none

/-- GET_ITEM by its own rule (R158). -/
def ruleGetItem (scope index item : Byte) (s : State) : Answer :=
  match s.itemValue scope index item with
  | some v => ⟨s, .ok, leBytes 4 v.toNat⟩
  | none => ⟨s, .badArgument, []⟩

/-- A SET_ITEM of a channel item, by the Channel Table (R2): the lock, then the range. -/
def ruleSetChannel (c : ChanId) (n : Nat) (v : Word) (s : State) : Answer :=
  let ch := s.chan c
  if ch.rt.state ≠ .disabled then ⟨s, .locked, []⟩
  else
    match ch.cfg.setItem n v with
    | some cfg => ⟨s.setChan c { ch with cfg := cfg }, .ok, []⟩
    | none => ⟨s, .badArgument, []⟩

/-- A SET_ITEM of a descriptor item, by the Frame Unit (R24): the lock, then the range. -/
def ruleSetDescriptor (d : DescId) (n : Nat) (v : Word) (s : State) : Answer :=
  if s.descLocked d then ⟨s, .locked, []⟩
  else
    match (s.descs[d]).setItem n v with
    | some x => ⟨{ s with descs := s.descs.set d x }, .ok, []⟩
    | none => ⟨s, .badArgument, []⟩

/-- A SET_ITEM of TICK_DIV, by the Timebase (R65); the tick in progress keeps its length (R64). -/
def ruleSetTickDiv (v : Word) (s : State) : Answer :=
  if s.allDisabled = false then ⟨s, .locked, []⟩
  else if v.toNat ≤ 7 then ⟨{ s with tickDiv := v.setWidth 3 }, .ok, []⟩
  else ⟨s, .badArgument, []⟩

/-- A SET_ITEM of PART_INITIATOR (R126). -/
def ruleSetPartInitiator (v : Word) (s : State) : Answer :=
  if v.toNat ≤ 15 then ⟨{ s with partInitiator := v.setWidth 4 }, .ok, []⟩ else ⟨s, .badArgument, []⟩

/-- The accepted values of RESP_LIMIT: 2^10 to 2^20 (R131). -/
def respLimits : List Nat := [1024, 2048, 4096, 8192, 16384, 32768, 65536, 131072, 262144, 524288, 1048576]

/-- A SET_ITEM of RESP_LIMIT (R131). -/
def ruleSetRespLimit (v : Word) (s : State) : Answer :=
  if v.toNat ∈ respLimits then ⟨{ s with respLimit := v.toNat }, .ok, []⟩ else ⟨s, .badArgument, []⟩

/-- A SET_ITEM of EVENT_MASK (R143). -/
def ruleSetEventMask (v : Word) (s : State) : Answer :=
  if v.toNat < 32768 then ⟨{ s with eventMask := v.setWidth 15 }, .ok, []⟩ else ⟨s, .badArgument, []⟩

/-- A SET_ITEM of a channel selector: one that names no item is answered BAD_ARGUMENT, before any lock (R159). -/
def ruleChannelSelector (index item : Byte) (v : Word) (s : State) : Answer :=
  match channelOf index with
  | some c => if item.toNat < 15 then ruleSetChannel c item.toNat v s else ⟨s, .badArgument, []⟩
  | none => ⟨s, .badArgument, []⟩

/-- A SET_ITEM of a descriptor selector (R159). -/
def ruleDescriptorSelector (index item : Byte) (v : Word) (s : State) : Answer :=
  if h : index.toNat < 16 then
    if item.toNat < 7 then ruleSetDescriptor ⟨index.toNat, h⟩ item.toNat v s else ⟨s, .badArgument, []⟩
  else ⟨s, .badArgument, []⟩

/-- SET_ITEM by its own rule (R159): a selector that names no item is answered BAD_ARGUMENT, any other is handed to the
owner of the item. -/
def ruleSetItem (scope index item : Byte) (v : Word) (s : State) : Answer :=
  match scope.toNat with
  | 0 =>
    if index = 0 then
      match item.toNat with
      | 0 => ruleSetTickDiv v s
      | 1 => ruleSetPartInitiator v s
      | 2 => ruleSetRespLimit v s
      | 3 => ruleSetEventMask v s
      | _ => ⟨s, .badArgument, []⟩
    else ⟨s, .badArgument, []⟩
  | 1 => ruleChannelSelector index item v s
  | 2 => ruleDescriptorSelector index item v s
  | _ => ⟨s, .badArgument, []⟩

/-- The seven argument bytes of a SET_ITEM (R174). -/
def setBytes (scope index item : Byte) (v : Word) : List Byte := [scope, index, item] ++ leBytes 4 v.toNat

/-- GET_ITEM. -/
def execGetItem (scope index item : Byte) (s : State) : Host.Outcome State Fault Refusal :=
  .next (s.row .getItem [scope, index, item] (ruleGetItem scope index item))

/-- SET_ITEM. -/
def execSetItem (scope index item : Byte) (value : Word) (s : State) : Host.Outcome State Fault Refusal :=
  .next (s.row .setItem (setBytes scope index item value) (ruleSetItem scope index item value))

/-- SET_CHANNEL_ITEM. -/
def execSetChannelItem (channel item : Byte) (value : Word) (s : State) : Host.Outcome State Fault Refusal :=
  .next (s.row .setItem (setBytes 1 channel item value) (ruleChannelSelector channel item value))

/-- SET_DESCRIPTOR_ITEM. -/
def execSetDescriptorItem (descriptor item : Byte) (value : Word) (s : State) : Host.Outcome State Fault Refusal :=
  .next (s.row .setItem (setBytes 2 descriptor item value) (ruleDescriptorSelector descriptor item value))

/-- SET_TICK_DIV. -/
def execSetTickDiv (value : Word) (s : State) : Host.Outcome State Fault Refusal :=
  .next (s.row .setItem (setBytes 0 0 0 value) (ruleSetTickDiv value))

/-- SET_PART_INITIATOR. -/
def execSetPartInitiator (value : Word) (s : State) : Host.Outcome State Fault Refusal :=
  .next (s.row .setItem (setBytes 0 0 1 value) (ruleSetPartInitiator value))

/-- SET_RESP_LIMIT. -/
def execSetRespLimit (value : Word) (s : State) : Host.Outcome State Fault Refusal :=
  .next (s.row .setItem (setBytes 0 0 2 value) (ruleSetRespLimit value))

/-- SET_EVENT_MASK. -/
def execSetEventMask (value : Word) (s : State) : Host.Outcome State Fault Refusal :=
  .next (s.row .setItem (setBytes 0 0 3 value) (ruleSetEventMask value))

end Sys2Proof.Machine
end

