-- ==== Sys2Proof/Machine/ArrivalMonitor.lean ====
section
/-! DEFINITION. The Arrival Monitor (04_arrival_monitor.md): intervals, base interval, guard, arrivals and deadlines, as
operations on a channel's runtime fields. -/

namespace Sys2Proof.Machine

/-- A fraction of an interval in sixteenths, rounded down (00, Fractions). -/
def sixteenths (interval k : Nat) : Nat := interval * k / 16

/-- A time some ticks after another, on the ring (R66). -/
def after (t : Word) (ticks : Nat) : Word := t + BitVec.ofNat 32 ticks

/-- A clean interval placed after the newest; of more than 8 the oldest is removed (R70). -/
def pushInterval (h : List Nat) (x : Nat) : List Nat :=
  let h' := h ++ [x]
  h'.drop (h'.length - Config.historyCap)

/-- The base interval of a history (R71): the mean of the newest min(h, D) intervals, rounded down, clamped to 16 to
16,777,215; NOMINAL for an empty history. -/
def baseOf (cfg : ChanConfig) (h : List Nat) : Nat :=
  match h with
  | [] => cfg.nominal
  | _ :: _ =>
    let c := min h.length cfg.avgDepth
    max 16 (min ((h.drop (h.length - c)).sum / c) Config.max24)

/-- The interval from the last arrival to a stamp, clamped (R69). -/
def intervalOf (last stamp : Word) : Nat := min (stamp - last).toNat Config.max24

/-- The guard value (R72). -/
def guardValue (cfg : ChanConfig) (rt : Runtime) : Nat := sixteenths rt.base cfg.guardG

/-- The interval of an arrival in RUNNING is judged and, when clean, entered (R69, R70, R71; R74 step 1). -/
def Runtime.judgeInterval (cfg : ChanConfig) (rt : Runtime) (stamp : Word) : Runtime :=
  match rt.lastArrival with
  | some last =>
    if rt.miss = 0 ∧ rt.mark = .clean then
      let h := pushInterval rt.history (intervalOf last stamp)
      { rt with history := h, base := baseOf cfg h }
    else rt
  | none => rt

/-- The arrival's own marks: last arrival, miss count 0, interval mark CLEAN, deadline armed (R73, R74, R75). -/
def Runtime.armFrom (rt : Runtime) (stamp : Word) (offset : Nat) : Runtime :=
  { rt with lastArrival := some stamp, miss := 0, mark := .clean, deadline := some (after stamp offset) }

/-- An arrival that finds the channel WAITING (R73). -/
def Runtime.arriveWaiting (cfg : ChanConfig) (rt : Runtime) (stamp : Word) : Runtime :=
  { rt.armFrom stamp (sixteenths cfg.nominal cfg.deadlineK) with state := .running }

/-- An arrival that finds the channel RUNNING (R74). -/
def Runtime.arriveRunning (cfg : ChanConfig) (rt : Runtime) (stamp : Word) : Runtime :=
  let rt1 := rt.judgeInterval cfg stamp
  let rt2 := if rt.miss = 0 then rt1 else { rt1 with pend := { rt1.pend with afterSynth := true } }
  rt2.armFrom stamp (sixteenths rt1.base cfg.deadlineK)

/-- An arrival that finds the channel LOST: a reacquisition (R75, R13). -/
def Runtime.arriveLost (cfg : ChanConfig) (rt : Runtime) (stamp : Word) : Runtime :=
  { rt.armFrom stamp (sixteenths cfg.nominal cfg.deadlineK) with
    state := .running, pend := { rt.pend with reacquired := true } }

/-- The channel becomes LOST at a deadline (R77, R79): the deadline is absent, the history empty, the base NOMINAL. -/
def Runtime.becomeLost (cfg : ChanConfig) (rt : Runtime) : Runtime :=
  { rt with state := .lost, miss := rt.miss + 1, deadline := none, history := [], base := cfg.nominal }

end Sys2Proof.Machine
end

