-- ==== Sys2Proof/Machine/Conditioner.lean ====
section
/-! DEFINITION. The Conditioner (03_unwrapping_and_conditioning.md): frame position, unwrapping, limiting and synthesized
outputs, as operations on a channel's runtime fields. -/

namespace Sys2Proof.Machine

/-- What the Frame Unit hands on with an accepted POSITION sample (R38): decoded POSITION and its width, decoded TURNS with
its width and encoding when there is one, and the acceptance stamp. -/
structure Sample where
  position : Nat
  positionWidth : Nat
  turns : Option (Nat × Nat × Encoding)
  stamp : Word
  deriving DecidableEq, Repr

/-- The frame position: TURNS × 2^pw + POSITION (R44). -/
def Sample.framePosition (x : Sample) : Nat :=
  match x.turns with
  | none => x.position
  | some (t, _, _) => t * 2 ^ x.positionWidth + x.position

/-- A first sample is sign-extended where the TURNS encoding is SIGNED (R45). -/
def Sample.signExtends (x : Sample) : Bool :=
  match x.turns with
  | some (_, _, .signed) => true
  | _ => false

/-- A W-bit pattern read as a signed W-bit number (R45, R46). -/
def signedRead (w x : Nat) : Int := if 2 ^ (w - 1) ≤ x then (x : Int) - 2 ^ w else x

/-- The extension of a first sample to 48 bits (R45). -/
def firstPosition (w p : Nat) (signExtend : Bool) : Pos :=
  if signExtend then BitVec.ofInt 48 (signedRead w p) else BitVec.ofNat 48 p

/-- The signed change between two frame positions (R46, step 1). -/
def unwrapDelta (w pNew pLast : Nat) : Int :=
  signedRead w (((pNew : Int) - pLast) % (2 ^ w : Nat)).toNat

/-- EP and P_last take an accepted frame position (R45, R46). -/
def Runtime.takePosition (rt : Runtime) (x : Sample) : Runtime :=
  let p := x.framePosition
  match rt.pLast with
  | none => { rt with ep := firstPosition rt.width p x.signExtends, pLast := some p }
  | some q => { rt with ep := rt.ep + BitVec.ofInt 48 (unwrapDelta rt.width p q), pLast := some p }

/-- OP takes a new value, and V and A are recomputed (R50). -/
def Runtime.output (rt : Runtime) (op : Pos) : Runtime :=
  { rt with op := op, vel := op - rt.op, acc := (op - rt.op) - rt.vel }

/-- clamp(x, ±L) of the Conventions. -/
def clampTo (x : Int) (l : Nat) : Int := max (-(l : Int)) (min x l)

/-- The entry output (R51); EP has been formed. -/
def conditionEntry (cfg : ChanConfig) (rt : Runtime) : Runtime × CondFlags :=
  ({ rt with op := rt.ep, vel := 0, acc := 0, viol := 0,
             cond := if cfg.filterMode = .curve then .prime else .track },
   { CondFlags.none with priming := decide (cfg.filterMode = .curve) })

/-- What a sample is compared with: OP_prev in RATE (R54), OP_prev + V_prev in CURVE (R55). -/
def limitOrigin (mode : FilterMode) (rt : Runtime) : Pos :=
  match mode with
  | .curve => rt.op + rt.vel
  | .rate | .off => rt.op

/-- The HOLDOVER output (R54, R55). -/
def holdoverOutput (mode : FilterMode) (rt : Runtime) : Pos :=
  match mode with
  | .curve => rt.op + rt.vel + rt.acc
  | .rate | .off => rt.op + rt.vel

/-- The table of R54, for RATE and, with the outputs of R55, for CURVE; EP has been formed. Answers the fields after the
output, its flags and the kind of event raised. -/
def conditionLimited (cfg : ChanConfig) (rt : Runtime) : Runtime × CondFlags × Option EventKind :=
  let origin := limitOrigin cfg.filterMode rt
  let m := (rt.ep - origin).toInt
  let slewOp := origin + BitVec.ofInt 48 (clampTo m cfg.limit)
  if m.natAbs ≤ cfg.limit then
    ({ rt.output rt.ep with cond := .track, viol := 0 }, .none, if rt.cond = .slew then some .slewEnd else none)
  else if rt.cond = .slew then
    ({ rt.output slewOp with cond := .slew, viol := cfg.persist }, { CondFlags.none with slewing := true }, none)
  else if rt.viol + 1 < cfg.persist then
    ({ rt.output (holdoverOutput cfg.filterMode rt) with cond := .holdover, viol := rt.viol + 1 },
     { CondFlags.none with limited := true }, none)
  else
    ({ rt.output slewOp with cond := .slew, viol := cfg.persist }, { CondFlags.none with slewing := true },
     some .slewBegin)

/-- The output of a real sample accepted while RUNNING (R52 to R55); EP has been formed. -/
def conditionReal (cfg : ChanConfig) (rt : Runtime) : Runtime × CondFlags × Option EventKind :=
  match cfg.filterMode with
  | .off => ({ rt.output rt.ep with cond := .track, viol := 0 }, .none, none)
  | .rate | .curve =>
    if rt.cond = .prime then
      ({ rt.output rt.ep with cond := .track, viol := 0 }, { CondFlags.none with priming := true }, none)
    else conditionLimited cfg rt

/-- The synthesized output position (R59). -/
def synthPosition (cfg : ChanConfig) (rt : Runtime) : Pos :=
  match cfg.synthPolicy, cfg.filterMode with
  | .hold, _ => rt.op
  | .project, .curve => rt.op + rt.vel + rt.acc
  | .project, .off | .project, .rate => rt.op + rt.vel

/-- The synthesized output (R59, R60), PRIMING when formed from PRIME (R58). -/
def conditionSynth (cfg : ChanConfig) (rt : Runtime) : Runtime × CondFlags :=
  (rt.output (synthPosition cfg rt), { CondFlags.none with priming := decide (rt.cond = .prime) })

end Sys2Proof.Machine
end

