-- ==== Sys2Proof/Machine/FrameUnit.lean ====
section
/-! DEFINITION. The Frame Unit (02_frame_descriptors_and_the_decode_schedule.md): fields, descriptor validity, staging, commit. -/

namespace Sys2Proof.Machine

/-! ## Fields (R26, R27) -/

/-- The four staging words as one run of bits (R26). -/
def frameRun (words : Vector Word 4) : Nat :=
  words[0].toNat + words[1].toNat * 2 ^ 32 + words[2].toNat * 2 ^ 64 + words[3].toNat * 2 ^ 96

/-- A field's raw value: bits 32w + s to 32w + s + f − 1 of the run (R26). -/
def rawField (words : Vector Word 4) (f : FieldSlot) : Nat :=
  frameRun words / 2 ^ (32 * f.word + f.start) % 2 ^ f.width

/-- Reflected Gray code to binary: bit i is the exclusive-OR of raw bits i through width − 1 (R27). -/
def grayDecode (width raw : Nat) : Nat := (List.range width).foldl (fun acc i => acc ^^^ (raw >>> i)) 0

/-- The decoded value of a field (R27); SIGNED hands on the raw pattern. -/
def decodeField (words : Vector Word 4) (f : FieldSlot) : Nat :=
  match f.encoding with
  | .binary | .signed => rawField words f
  | .gray => grayDecode f.width (rawField words f)

/-- The descriptor's slot of a role. -/
def Descriptor.field (d : Descriptor) (role : Role) : Option FieldSlot :=
  match (List.finRange 4).find? (fun k => match d.fields[k] with | some f => f.role == role | none => false) with
  | some k => d.fields[k]
  | none => none

/-- The width of a role's field, 0 where it is absent. -/
def Descriptor.fieldWidth (d : Descriptor) (role : Role) : Nat :=
  match d.field role with
  | some f => f.width
  | none => 0

/-! ## Validity and the frame checks of ENABLE (R25, R6) -/

/-- The greatest width of a role (R25, condition 2). -/
def Role.maxWidth : Role → Nat
  | .position => 32 | .turns => 16 | .status => 16 | .tag => 8 | .fault => 32 | .auxdata => 32

/-- The encodings a role allows (R25, condition 3). -/
def Role.allows : Role → Encoding → Bool
  | _, .binary => true
  | .turns, .signed => true
  | .position, .gray | .turns, .gray => true
  | _, _ => false

/-- Conditions 1 to 3 of R25 for one present slot. -/
def FieldSlot.fits (frameWords : Nat) (f : FieldSlot) : Bool :=
  decide (32 * f.word + f.start + f.width ≤ 32 * frameWords)
    && decide (1 ≤ f.width) && decide (f.width ≤ f.role.maxWidth) && f.role.allows f.encoding

/-- Condition 4 of R25: no two present slots have the same role. -/
def Descriptor.rolesDistinct (d : Descriptor) : Bool :=
  (List.finRange 4).all fun i => (List.finRange 4).all fun j =>
    match d.fields[i], d.fields[j] with
    | some f, some g => i == j || f.role != g.role
    | _, _ => true

/-- A descriptor is valid (R25). -/
def Descriptor.valid (d : Descriptor) : Bool :=
  (List.finRange 4).all (fun k => match d.fields[k] with | some f => f.fits d.frameWords | none => true)
    && d.rolesDistinct

/-- The position width a descriptor gives: POSITION plus TURNS (R6, check 5). -/
def Descriptor.positionWidth (d : Descriptor) : Nat := d.fieldWidth .position + d.fieldWidth .turns

/-- The active steps of a schedule, in order. -/
def Schedule.activeSteps (sch : Schedule) : List SchedStep :=
  ((List.finRange 4).filter fun k => sch.active k).map fun k => sch.steps[k]

/-- The descriptors of the active POSITION steps, in order. -/
def Schedule.positionDescs (sch : Schedule) (descs : Vector Descriptor 16) : List Descriptor :=
  (sch.activeSteps.filter fun st => st.kind == .position).map fun st => descs[st.desc]

/-- Checks 1 to 5 of R6. Answers the common frame length and position width when all pass. -/
def scheduleShape (sch : Schedule) (descs : Vector Descriptor 16) : Option (Nat × Nat) :=
  let ds := sch.activeSteps.map fun st => descs[st.desc]
  match ds, sch.positionDescs descs with
  | d :: _, p :: _ =>
    if ds.all Descriptor.valid
        && ds.all (fun x => x.frameWords == d.frameWords)
        && (sch.positionDescs descs).all (fun x => (x.field .position).isSome)
        && (sch.positionDescs descs).all (fun x => x.positionWidth == p.positionWidth)
    then some (d.frameWords, p.positionWidth) else none
  | _, _ => none

/-! ## Staging (R28, R29) -/

/-- The bits of a word whose byte enables are set. -/
def byteMask (en : BitVec 4) : Word :=
  (if en.getLsbD 0 then 0x000000FF else 0) ||| (if en.getLsbD 1 then 0x0000FF00 else 0)
    ||| (if en.getLsbD 2 then 0x00FF0000 else 0) ||| (if en.getLsbD 3 then 0xFF000000 else 0)

/-- Enabled bytes replace the matching bytes of the staged word (R28). -/
def mergeWord (old new : Word) (en : BitVec 4) : Word := (old &&& ~~~byteMask en) ||| (new &&& byteMask en)

/-- The first word index of an intake write (R28). -/
def firstIndex (cfg : ChanConfig) (r : Request) : Nat := (r.addr.toNat - cfg.intakeStart) / 4

/-- The write covers word index j (R28). -/
def coversWord (cfg : ChanConfig) (r : Request) (j : Nat) : Bool :=
  decide (firstIndex cfg r ≤ j) && decide (j < firstIndex cfg r + r.len.toNat)

/-- The byte enables with which a write covers word index j. -/
def enablesAt (cfg : ChanConfig) (r : Request) (j : Nat) : BitVec 4 := laneEnables r.be (j - firstIndex cfg r)

/-- An intake write staged: enabled bytes merged and marks set or cleared for each covered word below n (R28, R29). -/
def stageWrite (cfg : ChanConfig) (rt : Runtime) (r : Request) : Runtime :=
  { rt with
    staging := Vector.ofFn fun j : Fin 4 =>
      if j.val < rt.frameLen ∧ coversWord cfg r j.val = true then
        mergeWord rt.staging[j] (laneWord r.data (j.val - firstIndex cfg r)) (enablesAt cfg r j.val)
      else rt.staging[j]
    marks := Vector.ofFn fun j : Fin 4 =>
      if j.val < rt.frameLen ∧ coversWord cfg r j.val = true then enablesAt cfg r j.val == 15
      else rt.marks[j] }

/-- A frame commits when the write covers word n − 1 with all four byte enables set (R30). -/
def commits (cfg : ChanConfig) (rt : Runtime) (r : Request) : Bool :=
  coversWord cfg r (rt.frameLen - 1) && enablesAt cfg r (rt.frameLen - 1) == 15

/-! ## Commit (R32 to R42) -/

/-- Why a frame is faulted, with its detail (R40). -/
inductive FaultReason where
  | incomplete | mismatch | faultField
  deriving DecidableEq, Repr

/-- The detail of FRAME_FAULT (R40). -/
def FaultReason.detail : FaultReason → Half
  | .incomplete => 1 | .mismatch => 2 | .faultField => 3

/-- The step after s in the schedule (R41). -/
def nextStep (sch : Schedule) (k : Fin 4) : Fin 4 := if k.val + 1 = sch.len then 0 else k + 1

/-- Every word below n − 1 is marked (R32). -/
def complete (rt : Runtime) : Bool := (List.finRange 4).all fun j => !(decide (j.val + 1 < rt.frameLen)) || rt.marks[j]

/-- A descriptor's TAG field, where it has one, holds TAG_EXPECT (R33). -/
def Descriptor.tagTest (d : Descriptor) (words : Vector Word 4) : Option Bool :=
  (d.field .tag).map fun f => decodeField words f == d.tagExpect.toNat

/-- The descriptor a step names. -/
def stepDesc (cfg : ChanConfig) (descs : Vector Descriptor 16) (k : Fin 4) : Descriptor :=
  descs[cfg.schedule.steps[k].desc]

/-- The resync search: the lowest other active step whose descriptor has a TAG field that matches (R34). -/
def resyncSearch (cfg : ChanConfig) (descs : Vector Descriptor 16) (words : Vector Word 4) (cur : Fin 4) : Option (Fin 4) :=
  (List.finRange 4).find? fun k =>
    cfg.schedule.active k && k != cur && (stepDesc cfg descs k).tagTest words == some true

/-- The resolved step, and whether it was found by a resync (R33, R35); none is a MISMATCH. -/
def resolveStep (cfg : ChanConfig) (descs : Vector Descriptor 16) (words : Vector Word 4) (cur : Fin 4) :
    Option (Fin 4 × Bool) :=
  match (stepDesc cfg descs cur).tagTest words with
  | none | some true => some (cur, false)
  | some false => (resyncSearch cfg descs words cur).map fun k => (k, true)

/-- The guard applies and the frame is EARLY (R36, R72). -/
def isEarly (cfg : ChanConfig) (rt : Runtime) (kind : StepKind) (stamp : Word) : Bool :=
  match rt.lastArrival with
  | some last =>
    kind == .position && rt.state == .running && decide (0 < cfg.guardG)
      && decide ((stamp - last).toNat < guardValue cfg rt)
  | none => false

/-- The FAULT field shares a set bit with FAULT_MASK (R37). -/
def Descriptor.faulted (d : Descriptor) (words : Vector Word 4) : Bool :=
  match d.field .fault with
  | some f => (BitVec.ofNat 32 (decodeField words f)) &&& d.faultMask != 0
  | none => false

/-- The aux values a delivered frame updates (R39). -/
def Runtime.takeAux (rt : Runtime) (d : Descriptor) (words : Vector Word 4) : Runtime :=
  let rt1 := match d.field .status with
    | some f => { rt with auxStatus := BitVec.ofNat 16 (decodeField words f), statusValid := true }
    | none => rt
  match d.field .auxdata with
  | some f => { rt1 with auxWord := BitVec.ofNat 32 (decodeField words f), auxValid := true }
  | none => rt1

/-- The sample a descriptor's fields carry (R38). -/
def sampleOf (d : Descriptor) (words : Vector Word 4) (stamp : Word) : Sample where
  position := match d.field .position with | some f => decodeField words f | none => 0
  positionWidth := d.fieldWidth .position
  turns := (d.field .turns).map fun f => (decodeField words f, f.width, f.encoding)
  stamp := stamp

/-- What a commit comes to: the channel after it, what the Frame Unit raises, and the sample handed on, if any. -/
structure CommitResult where
  chan : Channel
  events : List RawEvent
  sample : Option Sample
  deriving DecidableEq, Repr

/-- A frame faulted at a step (R40); `next` is the step pointer after it (R41). -/
def faultFrame (c : ChanId) (ch : Channel) (why : FaultReason) (kind : StepKind) (next : Fin 4) (before : List RawEvent) :
    CommitResult :=
  let rt := match kind with
    | .position => { ch.rt with pend := { ch.rt.pend with faultSeen := true }, mark := .spoiled }
    | .aux => ch.rt
  ⟨{ ch with rt := { rt with stepPtr := next }, ctr := ch.ctr.bumpFaults },
   before ++ [⟨.frameFault, some c, why.detail⟩], none⟩

/-- A frame decoded at a resolved step: the guard, the FAULT field, delivery (R36 to R39). -/
def decodeFrame (c : ChanId) (descs : Vector Descriptor 16) (ch : Channel) (stamp : Word) (k : Fin 4)
    (before : List RawEvent) : CommitResult :=
  let d := stepDesc ch.cfg descs k
  let kind := ch.cfg.schedule.steps[k].kind
  let words := ch.rt.staging
  let next := nextStep ch.cfg.schedule k
  if isEarly ch.cfg ch.rt kind stamp then
    ⟨{ ch with ctr := ch.ctr.bumpEarly }, before ++ [⟨.earlyFrame, some c, 0⟩], none⟩
  else if d.faulted words then faultFrame c ch .faultField kind next before
  else
    let rt := { ch.rt.takeAux d words with stepPtr := next }
    match kind with
    | .position => ⟨{ ch with rt := rt, ctr := ch.ctr.bumpFrames }, before, some (sampleOf d words stamp)⟩
    | .aux => ⟨{ ch with rt := rt, ctr := ch.ctr.bumpAuxFrames }, before, none⟩

/-- The checks of a committed frame in their order (2.4), the marks still as the committing write left them. -/
def checkFrame (c : ChanId) (descs : Vector Descriptor 16) (ch : Channel) (stamp : Word) : CommitResult :=
  let cur := ch.rt.stepPtr
  let kind := ch.cfg.schedule.steps[cur].kind
  if complete ch.rt = false then faultFrame c ch .incomplete kind (nextStep ch.cfg.schedule cur) []
  else
    match resolveStep ch.cfg descs ch.rt.staging cur with
    | none => faultFrame c ch .mismatch kind cur []
    | some (k, false) => decodeFrame c descs ch stamp k []
    | some (k, true) =>
      decodeFrame c descs { ch with rt := { ch.rt with pend := { ch.rt.pend with resynced := true } } } stamp k
        [⟨.resync, some c, 0⟩]

/-- After every commit all four marks are cleared (R42). -/
def commitFrame (c : ChanId) (descs : Vector Descriptor 16) (ch : Channel) (stamp : Word) : CommitResult :=
  let r := checkFrame c descs ch stamp
  { r with chan := { r.chan with rt := { r.chan.rt with marks := Vector.replicate 4 false } } }

end Sys2Proof.Machine
end

