-- ==== Sys2Proof/Machine/ChannelCommands.lean ====
section
/-! DEFINITION. The channel commands (01, 9.3): ENABLE_CHANNEL, DISABLE_CHANNEL, GET_CHANNEL_STATE, GET_COUNTERS and
CLEAR_COUNTERS. -/

namespace Sys2Proof.Machine

/-! ## Enable and disable -/

/-- Checks 7 and 8 of R6: the channel's windows overlap each other, or a window of another channel not in DISABLED. -/
def State.windowOverlap (s : State) (c : ChanId) : Bool :=
  let cfg := (s.chan c).cfg
  rangesOverlap cfg.intakeStart 16 cfg.outputStart cfg.outputSize
    || (List.finRange 12).any fun d =>
        d != c && (s.chan d).rt.state != .disabled && windowsClash cfg (s.chan d).cfg

/-- The After ENABLE values of R4 and R67. -/
def Runtime.enabled (cfg : ChanConfig) (now : Word) (frameLen width : Nat) : Runtime :=
  { Runtime.cleared cfg.nominal with
    state := .waiting
    frameLen := frameLen
    width := width
    deadline := some (after now (sixteenths cfg.nominal cfg.deadlineK)) }

/-- ENABLE_CHANNEL by its own rule (R6, R7, R8). -/
def ruleEnable (c : ChanId) (s : State) : Answer :=
  let ch := s.chan c
  if ch.rt.state ≠ .disabled then ⟨s, .locked, []⟩
  else
    match scheduleShape ch.cfg.schedule s.descs with
    | none => ⟨s, .invalidConfig, []⟩
    | some (n, w) =>
      if ch.cfg.outputStart % ch.cfg.outputSize ≠ 0 then ⟨s, .invalidConfig, []⟩
      else if s.windowOverlap c then ⟨s, .overlap, []⟩
      else ⟨s.setChan c { ch with rt := Runtime.enabled ch.cfg s.tick n w, ctr := .zero }, .ok, []⟩

/-- A channel in WAITING, RUNNING or LOST is disabled (R14, R5, R99): DRAINING, no deadline, its queued records discarded,
the drain condition tested. Answers the state and any CH_DRAINED, which the happening enters. -/
def State.disable (s : State) (c : ChanId) : State × List RawEvent :=
  let ch := s.chan c
  if ch.rt.state.intakeMatched then
    ((s.setChan c { ch with rt := { ch.rt with state := .draining, deadline := none } }).discard c).drainTest c
  else (s, [])

/-- DISABLE_CHANNEL by its own rule (R14, R160). -/
def ruleDisable (c : ChanId) (s : State) : Answer :=
  let r := s.disable c
  ⟨r.1.raise [r.2], .ok, []⟩

/-! ## Snapshot and counters -/

/-- R175, life-cycle codes. -/
def LifeCycle.code : LifeCycle → Byte
  | .disabled => 0 | .waiting => 1 | .running => 2 | .lost => 3 | .draining => 4

/-- R175, conditioner state codes. -/
def CondState.code : CondState → Byte
  | .prime => 0 | .track => 1 | .holdover => 2 | .slew => 3

/-- R175: bit k is the mark of staging word k. -/
def marksByte (m : Vector Bool 4) : Byte :=
  0#4 ++ BitVec.ofBool m[3] ++ BitVec.ofBool m[2] ++ BitVec.ofBool m[1] ++ BitVec.ofBool m[0]

/-- R175: bit 0 deadline present, bit 1 last arrival present. -/
def presenceByte (rt : Runtime) : Byte :=
  0#6 ++ BitVec.ofBool rt.lastArrival.isSome ++ BitVec.ofBool rt.deadline.isSome

/-- The 56 bytes of a snapshot (R161, R175). -/
def snapshot (rt : Runtime) : List Byte :=
  [rt.state.code, rt.cond.code, BitVec.ofNat 8 rt.stepPtr.val, BitVec.ofNat 8 rt.miss, marksByte rt.marks,
    BitVec.ofNat 8 rt.history.length, presenceByte rt, BitVec.ofNat 8 rt.viol]
  ++ leBytes 4 rt.base
  ++ leBytes 4 (rt.deadline.getD 0).toNat
  ++ leBytes 4 (rt.lastArrival.getD 0).toNat
  ++ leBytes 6 rt.ep.toNat ++ leBytes 6 rt.op.toNat ++ leBytes 6 rt.vel.toNat
  ++ leBytes 2 rt.nextSeq.toNat
  ++ leBytes 4 rt.staging[0].toNat ++ leBytes 4 rt.staging[1].toNat
  ++ leBytes 4 rt.staging[2].toNat ++ leBytes 4 rt.staging[3].toNat

/-- GET_CHANNEL_STATE by its own rule (R161). -/
def ruleGetState (c : ChanId) (s : State) : Answer := ⟨s, .ok, snapshot (s.chan c).rt⟩

/-- GET_COUNTERS by its own rule (R162): two bytes a counter. -/
def ruleGetCounters (c : ChanId) (s : State) : Answer :=
  ⟨s, .ok, (s.chan c).ctr.inOrder.flatMap fun x => leBytes 2 x.toNat⟩

/-- CLEAR_COUNTERS by its own rule (R151, R162). -/
def ruleClearCounters (c : ChanId) (s : State) : Answer :=
  ⟨s.setChan c { s.chan c with ctr := .zero }, .ok, []⟩

/-- ENABLE_CHANNEL. -/
def execEnableChannel (channel : Byte) (s : State) : Host.Outcome State Fault Refusal :=
  .next (s.row .enable [channel] (withChannel channel ruleEnable))

/-- DISABLE_CHANNEL. -/
def execDisableChannel (channel : Byte) (s : State) : Host.Outcome State Fault Refusal :=
  .next (s.row .disable [channel] (withChannel channel ruleDisable))

/-- GET_CHANNEL_STATE. -/
def execGetChannelState (channel : Byte) (s : State) : Host.Outcome State Fault Refusal :=
  .next (s.row .getState [channel] (withChannel channel ruleGetState))

/-- GET_COUNTERS. -/
def execGetCounters (channel : Byte) (s : State) : Host.Outcome State Fault Refusal :=
  .next (s.row .getCounters [channel] (withChannel channel ruleGetCounters))

/-- CLEAR_COUNTERS. -/
def execClearCounters (channel : Byte) (s : State) : Host.Outcome State Fault Refusal :=
  .next (s.row .clearCounters [channel] (withChannel channel ruleClearCounters))

end Sys2Proof.Machine
end

