-- ==== Sys2Proof/Machine/EventCommands.lean ====
section
/-! DEFINITION. Events, status and time on the management port (9.4): POP_EVENT, CLEAR_EVENTS, GET_STATUS and GET_TIME. -/

namespace Sys2Proof.Machine

/-- The eight bytes of an event entry (R175); 0xFF for no channel. -/
def EventEntry.bytes (e : EventEntry) : List Byte :=
  [BitVec.ofNat 8 e.kind.number, match e.chan with | some c => BitVec.ofNat 8 c.val | none => 0xFF]
  ++ leBytes 2 e.detail.toNat ++ leBytes 4 e.stamp.toNat

/-- POP_EVENT by its own rule (R145, R163). -/
def rulePopEvent (s : State) : Answer :=
  match s.events with
  | e :: rest => ⟨{ s with events := rest }, .ok, e.bytes⟩
  | [] => ⟨s, .empty, []⟩

/-- The FIFO emptied, OVERFLOW cleared and DROPPED_EVENTS set to 0 (R145, R147). -/
def State.clearEventFifo (s : State) : State := { s with events := [], overflow := false, droppedEvents := 0 }

/-- CLEAR_EVENTS by its own rule (R145, R163). -/
def ruleClearEvents (s : State) : Answer := ⟨s.clearEventFifo, .ok, []⟩

/-- The twelve bytes of the status block (R164, R175). -/
def State.statusBytes (s : State) : List Byte :=
  [BitVec.ofNat 8 s.events.length,
    0#6 ++ BitVec.ofBool s.resetting ++ BitVec.ofBool s.overflow,
    BitVec.ofNat 8 s.intake.length, BitVec.ofNat 8 s.forward.length, BitVec.ofNat 8 s.hold.length,
    BitVec.ofNat 8 s.records.length, BitVec.ofNat 8 s.inUse.length]
  ++ leBytes 2 s.stray.toNat ++ leBytes 2 s.refusedRequests.toNat ++ [s.droppedEvents]

/-- GET_STATUS by its own rule (R164). -/
def ruleGetStatus (s : State) : Answer := ⟨s, .ok, s.statusBytes⟩

/-- GET_TIME by its own rule (R165). -/
def ruleGetTime (s : State) : Answer := ⟨s, .ok, leBytes 4 s.tick.toNat⟩

/-- POP_EVENT. -/
def execPopEvent (s : State) : Host.Outcome State Fault Refusal := .next (s.row .popEvent [] rulePopEvent)

/-- CLEAR_EVENTS. -/
def execClearEvents (s : State) : Host.Outcome State Fault Refusal := .next (s.row .clearEvents [] ruleClearEvents)

/-- GET_STATUS. -/
def execGetStatus (s : State) : Host.Outcome State Fault Refusal := .next (s.row .getStatus [] ruleGetStatus)

/-- GET_TIME. -/
def execGetTime (s : State) : Host.Outcome State Fault Refusal := .next (s.row .getTime [] ruleGetTime)

end Sys2Proof.Machine
end

