-- ==== Sys2Proof/Machine/SoftReset.lean ====
section
/-! DEFINITION. The soft reset (9.5): SOFT_RESET and SOFT_RESET_COMPLETION. -/

namespace Sys2Proof.Machine

/-- Every channel of a list disabled in turn; each one's CH_DRAINED is a list of its own, since no rule orders them. -/
def State.disableEach (s : State) : List ChanId → State × List (List RawEvent)
  | [] => (s, [])
  | c :: cs =>
    let r := s.disable c
    let t := State.disableEach r.1 cs
    (t.1, r.2 :: t.2)

/-- SOFT_RESET by its own rule (R166). -/
def ruleSoftReset (s : State) : Answer :=
  let r := State.disableEach { s with resetting := true } (List.finRange 12)
  ⟨r.1.raise r.2, .ok, []⟩

/-- SOFT_RESET. -/
def execSoftReset (s : State) : Host.Outcome State Fault Refusal := .next (s.row .softReset [] ruleSoftReset)

/-- An entry in use that is not an orphan. -/
def Entry.live (x : Entry) : Bool :=
  match x.tx with
  | some t => !t.orphan
  | none => false

/-- The completion condition (R168). -/
def State.resetComplete (s : State) : Bool :=
  s.intake.isEmpty && s.forward.isEmpty && s.hold.isEmpty && s.records.isEmpty
    && (List.finRange 24).all fun e => !(s.entry e).live

/-- An orphan freed at the completion, its generation advanced (R140, R169). -/
def Entry.freeOrphan (x : Entry) : Entry := if x.tx.isSome then x.freed else x

/-- A channel at the completion: runtime fields Cleared, counters 0, configuration kept (R169, R4, R151). -/
def Channel.softCleared (ch : Channel) : Channel := ⟨ch.cfg, .cleared ch.cfg.nominal, .zero⟩

/-- Everything the completion clears, before RESET_DONE is raised (R169 steps 1 to 3, R147). -/
def State.softCleared (s : State) : State :=
  { s.clearEventFifo with
    chans := s.chans.map Channel.softCleared
    table := s.table.map Entry.freeOrphan
    stray := 0
    refusedRequests := 0 }

/-- SOFT_RESET_COMPLETION (R168, R169). -/
def execSoftResetCompletion (s : State) : Host.Outcome State Fault Refusal :=
  .next (if s.resetting = true ∧ s.rstAsserted = false ∧ s.resetComplete = true then
    { (s.softCleared.raise [[⟨.resetDone, none, 0⟩]]) with resetting := false } else s)

end Sys2Proof.Machine
end

