-- ==== Sys2Proof/Machine/Pins.lean ====
section
/-! DEFINITION. Time and pins: TICK (R64), PIN_RESET and PIN_RESET_RELEASE (R170), CS_FALL, CS_RISE and SPI_BYTE (R153, R156). -/

namespace Sys2Proof.Machine

/-- TICK (R64): the counter advances by 1 and wraps; it is held at 0 while RST# is asserted. The next tick has the length
TICK_DIV now gives. -/
def execTick (s : State) : Host.Outcome State Fault Refusal :=
  .next (if s.rstAsserted then s else { s with tick := s.tick + 1, tickLen := s.tickDiv })

/-- Every block at its pin-reset state (R170). What is outside the part stays: the CS# level, what the link partners and the
SPI host have been given, the commands waiting, and the count of free choices. -/
def State.pinCleared (s : State) : State :=
  { State.reset with
    pending := s.pending
    csLow := s.csLow
    usOut := s.usOut
    dqOut := s.dqOut
    misoOut := s.misoOut
    choice := s.choice }

/-- PIN_RESET (R170): RST# is asserted; every block is held at its pin-reset state. -/
def execPinReset (s : State) : Host.Outcome State Fault Refusal :=
  .next { s.pinCleared with rstAsserted := true }

/-- PIN_RESET_RELEASE (R170): RST# is released and the blocks resume. With CS# low the frame state stays IDLE, so bytes are
ignored until CS# has risen and fallen again. -/
def execPinResetRelease (s : State) : Host.Outcome State Fault Refusal :=
  .next (if s.rstAsserted then { s.pinCleared with rstAsserted := false } else s)

/-- CS_FALL (R153): in IDLE a frame begins, no command byte received (held as 0, log entry 15); while RST# is asserted the
edge only moves the pin (R170). -/
def execCsFall (s : State) : Host.Outcome State Fault Refusal :=
  .next (if s.csLow then s
    else if s.rstAsserted = false ∧ s.mgmt.frame = .idle then
      { s with csLow := true, mgmt := ⟨.command, 0, [], []⟩, misoOut := [] }
    else { s with csLow := true })

/-- CS_RISE (R156): the frame state returns to IDLE; bytes received and response bytes not yet shifted out are discarded. -/
def execCsRise (s : State) : Host.Outcome State Fault Refusal :=
  .next (if s.csLow then { s with csLow := false, mgmt := .idle } else s)

/-- A command by its own rule, from its argument bytes (R154, R174). -/
def ruleOf (cmd : Cmd) (args : List Byte) (s : State) : Answer :=
  match cmd, args with
  | .getItem, [a, b, c] => ruleGetItem a b c s
  | .setItem, [a, b, c, v0, v1, v2, v3] => ruleSetItem a b c (BitVec.ofNat 32 (leNat [v0, v1, v2, v3])) s
  | .enable, [c] => withChannel c ruleEnable s
  | .disable, [c] => withChannel c ruleDisable s
  | .getState, [c] => withChannel c ruleGetState s
  | .getCounters, [c] => withChannel c ruleGetCounters s
  | .clearCounters, [c] => withChannel c ruleClearCounters s
  | .popEvent, _ => rulePopEvent s
  | .clearEvents, _ => ruleClearEvents s
  | .getStatus, _ => ruleGetStatus s
  | .getTime, _ => ruleGetTime s
  | .softReset, _ => ruleSoftReset s
  | _, _ => ⟨s, .badArgument, []⟩

/-- A complete byte in COMMAND (R153). -/
def State.commandByte (s : State) (b : Byte) : State :=
  match Cmd.ofCode b with
  | none => s.answerBad b
  | some cmd =>
    if cmd.argBytes = 0 then s.takeCommand cmd (ruleOf cmd [])
    else { s with mgmt := ⟨.arguments, b, [], []⟩, misoOut := s.misoOut ++ [0] }

/-- A complete byte in ARGUMENTS (R153). -/
def State.argumentByte (s : State) (b : Byte) : State :=
  match Cmd.ofCode s.mgmt.cmd with
  | none => s
  | some cmd =>
    let args := s.mgmt.args ++ [b]
    if args.length < cmd.argBytes then
      { s with mgmt := { s.mgmt with args := args }, misoOut := s.misoOut ++ [0] }
    else s.takeCommand cmd (ruleOf cmd args)

/-- A byte time in RESPONSE: the next response byte is shifted out, and after the last the state is TRAILING (R153). -/
def State.responseByte (s : State) : State :=
  match s.mgmt.resp with
  | [] => { s with mgmt := { s.mgmt with frame := .trailing }, misoOut := s.misoOut ++ [0] }
  | [x] => { s with mgmt := { s.mgmt with frame := .trailing, resp := [] }, misoOut := s.misoOut ++ [x] }
  | x :: y :: xs => { s with mgmt := { s.mgmt with resp := y :: xs }, misoOut := s.misoOut ++ [x] }

/-- SPI_BYTE (R153): a complete byte moves the frame state. In IDLE it is ignored; in TRAILING 0x00 is shifted out. A byte
that takes a command takes it, as the command's own row does (log entry 12). -/
def execSpiByte (mosi : Byte) (s : State) : Host.Outcome State Fault Refusal :=
  .next (if s.rstAsserted then s else
    match s.mgmt.frame with
    | .idle => s
    | .command => s.commandByte mosi
    | .arguments => s.argumentByte mosi
    | .response => s.responseByte
    | .trailing => { s with misoOut := s.misoOut ++ [0] })

end Sys2Proof.Machine
end

