-- ==== Sys2Proof/Machine/Samples.lean ====
section
/-! DEFINITION. The happenings inside a commit and at a deadline that pass through several blocks: an accepted POSITION
sample (R63) and the reaching of a deadline (R77 to R79), with the command DEADLINE_REACHED. -/

namespace Sys2Proof.Machine

/-- The event a conditioner output raises for its channel (R57). -/
def slewEvents (c : ChanId) (k : Option EventKind) : List RawEvent :=
  match k with
  | some kind => [⟨kind, some c, 0⟩]
  | none => []

/-- The Conditioner's output of a sample, by the state the sample finds (R51 to R55). -/
def conditionSample (cfg : ChanConfig) (found : LifeCycle) (rt : Runtime) : Runtime × CondFlags × Option EventKind :=
  match found with
  | .running => conditionReal cfg rt
  | .waiting | .lost | .disabled | .draining =>
    let e := conditionEntry cfg rt
    (e.1, e.2, none)

/-- The Arrival Monitor takes the arrival, by the state the sample finds (R73 to R75). Answers the fields and its event. -/
def takeArrival (c : ChanId) (cfg : ChanConfig) (found : LifeCycle) (rt : Runtime) (stamp : Word) :
    Runtime × List RawEvent :=
  match found with
  | .waiting => (rt.arriveWaiting cfg stamp, [])
  | .running => (rt.arriveRunning cfg stamp, [])
  | .lost => (rt.arriveLost cfg stamp, [⟨.chReacquired, some c, 0⟩])
  | .disabled | .draining => (rt, [])

/-- The LIMITED counter rises at each HOLDOVER and each SLEW output (R58). -/
def Counters.countOutput (ctr : Counters) (cf : CondFlags) : Counters :=
  if cf.limited || cf.slewing then ctr.bumpLimited else ctr

/-- A channel's fields after the Conditioner and the Arrival Monitor have taken a sample, the output's flags, and the events
of the Conditioner and of the Arrival Monitor (R63, steps 2 to 4). -/
def Channel.takeSample (c : ChanId) (ch : Channel) (x : Sample) :
    Channel × CondFlags × List RawEvent × List RawEvent :=
  let out := conditionSample ch.cfg ch.rt.state (ch.rt.takePosition x)
  let arr := takeArrival c ch.cfg ch.rt.state out.1 x.stamp
  ({ ch with rt := arr.1, ctr := ch.ctr.countOutput out.2.1 }, out.2.1, slewEvents c out.2.2, arr.2)

/-- An accepted POSITION sample taken whole, the SAMPLE record last (R63, R84); `before` is what the Frame Unit raised. -/
def State.takeSample (s : State) (c : ChanId) (x : Sample) (before : List RawEvent) : State :=
  let r := (s.chan c).takeSample c x
  let g := (s.setChan c r.1).generate c .sample r.2.1 false x.stamp
  g.1.raise [before ++ r.2.2.1, r.2.2.2, g.2]

/-- An intake write handed to the Frame Unit: staged, and, when it commits, its frame processed whole (R28 to R42, R112
step 1). -/
def State.intakeWrite (s : State) (c : ChanId) (r : Request) (stamp : Word) : State :=
  let ch := s.chan c
  let ch1 := { ch with rt := stageWrite ch.cfg ch.rt r }
  if commits ch.cfg ch.rt r then
    let res := commitFrame c s.descs ch1 stamp
    match res.sample with
    | none => (s.setChan c res.chan).raise [res.events]
    | some x => (s.setChan c res.chan).takeSample c x res.events
  else s.setChan c ch1

/-! ## Deadlines -/

/-- The deadline of a WAITING channel (R77). -/
def State.waitingDeadline (s : State) (c : ChanId) (d : Word) : State :=
  let ch := s.chan c
  if ch.rt.miss + 1 < ch.cfg.missLimit then
    s.setChan c { ch with rt := { ch.rt with miss := ch.rt.miss + 1, deadline := some (after d ch.cfg.nominal) } }
  else
    let g := (s.setChan c { ch with rt := ch.rt.becomeLost ch.cfg }).generate c .lost .none true d
    g.1.raise [[⟨.chLost, some c, 0⟩], g.2]

/-- The deadline of a RUNNING channel: a synthesized output and a SYNTH record (R78), or the loss of the channel (R79). -/
def State.runningDeadline (s : State) (c : ChanId) (d : Word) : State :=
  let ch := s.chan c
  if ch.rt.miss + 1 < ch.cfg.missLimit then
    let out := conditionSynth ch.cfg { ch.rt with miss := ch.rt.miss + 1 }
    let rt := { out.1 with deadline := some (after d ch.rt.base) }
    let g := (s.setChan c { ch with rt := rt, ctr := ch.ctr.bumpSynth }).generate c .synth out.2 false d
    g.1.raise [g.2]
  else
    let g := (s.setChan c { ch with rt := ch.rt.becomeLost ch.cfg }).generate c .lost .none false d
    g.1.raise [[⟨.chLost, some c, 0⟩], g.2]

/-- DEADLINE_REACHED (R66, R76 to R79): the channel's deadline is present and reached. -/
def execDeadlineReached (channel : ChanId) (s : State) : Host.Outcome State Fault Refusal :=
  .next (match (s.chan channel).rt.deadline with
    | none => s
    | some d =>
      if reached s.tick d = true ∧ s.rstAsserted = false then
        match (s.chan channel).rt.state with
        | .waiting => s.waitingDeadline channel d
        | .running => s.runningDeadline channel d
        | .disabled | .lost | .draining => s
      else s)

end Sys2Proof.Machine
end

