-- ==== Sys2Proof/Machine/Upstream.lean ====
section
/-! DEFINITION. Upstream traffic (06_upstream_traffic.md): TAKE_REQUEST, CLASSIFICATION and RELEASED_READ_MOVE. -/

namespace Sys2Proof.Machine

/-- TAKE_REQUEST (R105): the request offered joins the Intake Queue with the tick count as its acceptance stamp; while no
entry is free or the part is RESETTING it is not taken and waits on the link (R106; log entry 1). -/
def execTakeRequest (kind : BitVec 1) (addr : Word) (len : BitVec 3) (init : BitVec 4) (tag : Byte) (be : Half)
    (data : BitVec 128) (s : State) : Host.Outcome State Fault Refusal :=
  .next (if s.uqAccept then
    { s with intake := s.intake ++ [⟨requestOf kind addr len init tag be data, s.tick⟩] } else s)

/-- What an examination of the head finds (R108). -/
inductive Verdict where
  | breaksForm
  | writeRefused (c : ChanId)
  | intruder (c : ChanId)
  | intake (c : ChanId)
  | outputRead (c : ChanId)
  | plain
  deriving DecidableEq, Repr

/-- The channel whose matched output area a request overlaps (R18, R19); at most one (R20). -/
def State.outputOwner (s : State) (r : Request) : Option ChanId :=
  (List.finRange 12).find? fun c => (s.chan c).rt.state.outputMatched
    && spanOverlaps r.addr r.len (s.chan c).cfg.outputStart (s.chan c).cfg.outputSize

/-- The channel whose matched intake window a request overlaps (R18, R19); at most one (R20). -/
def State.intakeOwner (s : State) (r : Request) : Option ChanId :=
  (List.finRange 12).find? fun c => (s.chan c).rt.state.intakeMatched
    && spanOverlaps r.addr r.len (s.chan c).cfg.intakeStart 16

/-- An initiator passes the OWNER check (R111). -/
def ChanConfig.admits (cfg : ChanConfig) (init : BitVec 4) : Bool :=
  match cfg.owner with
  | none => true
  | some o => o == init

/-- The six checks of R108 in their order. -/
def State.classify (s : State) (r : Request) : Verdict :=
  if breaksForm r then .breaksForm
  else
    match r.kind with
    | .write =>
      match s.outputOwner r with
      | some c => .writeRefused c
      | none =>
        match s.intakeOwner r with
        | some c => if (s.chan c).cfg.admits r.init then .intake c else .intruder c
        | none => .plain
    | .read =>
      match s.outputOwner r with
      | some c => .outputRead c
      | none => .plain

/-- A request joins the Forward Queue after the newest entry (R117). -/
def State.joinForward (s : State) (r : Request) : State := { s with forward := s.forward ++ [r] }

/-- A write into a matched window refused for the channel: REFUSED counted, the event raised, the answer REFUSED (R110,
R111). -/
def State.refuseWrite (s : State) (c : ChanId) (kind : EventKind) (r : Request) : State :=
  ((s.bumpCtr c Counters.bumpRefused).raise [[⟨kind, some c, r.init.setWidth 16⟩]]).respond r.refusal

/-- The slot an output-area read names (R18, R114). -/
def State.readSlot (s : State) (c : ChanId) (r : Request) : Nat := (s.chan c).cfg.slotOf r.addr

/-- The effects of an outcome on the state from which the head has left; none where the room it needs is not there
(R107, R109 to R115). -/
def State.complete (s : State) (h : IntakeEntry) (v : Verdict) : Option State :=
  match v with
  | .breaksForm =>
    some (({ s with refusedRequests := satInc s.refusedRequests }.raise
      [[⟨.requestRefused, none, h.req.init.setWidth 16⟩]]).respond h.req.refusal)
  | .writeRefused c => some (s.refuseWrite c .writeRefused h.req)
  | .intruder c => some (s.refuseWrite c .intruder h.req)
  | .intake c =>
    if (s.chan c).cfg.passraw then
      if s.forwardRoom then some ((s.intakeWrite c h.req h.stamp).joinForward h.req) else none
    else some ((s.intakeWrite c h.req h.stamp).respond h.req.absorbed)
  | .outputRead c =>
    if s.reserved c (s.readSlot c h.req) then
      if s.hold.length < Config.holdCap then
        some { s with hold := s.hold ++ [⟨h.req, c, s.readSlot c h.req, .held⟩] }
      else none
    else if s.forwardRoom then some (s.joinForward h.req) else none
  | .plain => if s.forwardRoom then some (s.joinForward h.req) else none

/-- CLASSIFICATION (R107): an examination of the head. Where its outcome is possible the head leaves the Intake Queue and the
outcome's effects are taken whole; where it is not, the examination has no effect. While a RELEASED read can move the head is
not taken: the move comes first (R101; log entry 13). -/
def execClassification (s : State) : Host.Outcome State Fault Refusal :=
  .next (match s.intake with
    | [] => s
    | h :: rest =>
      if s.rstAsserted || s.moveDue then s
      else ({ s with intake := rest }.complete h (s.classify h.req)).getD s)

/-- RELEASED_READ_MOVE (R120): the oldest RELEASED read moves to the Forward Queue when that has a free entry, and the drain
of its channel is tested (R16). -/
def execReleasedReadMove (s : State) : Host.Outcome State Fault Refusal :=
  .next (match s.hold.findIdx? (fun h => h.cond == .released) with
    | none => s
    | some i =>
      match s.hold[i]? with
      | none => s
      | some h =>
        if s.forward.length < Config.forwardCap ∧ s.rstAsserted = false then
          let t := ({ s with hold := s.hold.eraseIdx i }.joinForward h.req).drainTest h.chan
          t.1.raise [t.2]
        else s)

end Sys2Proof.Machine
end

