-- ==== Sys2Proof/Machine/Dispatch.lean ====
section
/-! DEFINITION. exec: one arm per command, each a direct call of its meaning. -/

namespace Sys2Proof.Machine

def exec (i : Instr) (s : State) : Host.Outcome State Fault Refusal :=
  match i with
  | .tick => Sys2Proof.Machine.execTick s
  | .pinReset => Sys2Proof.Machine.execPinReset s
  | .pinResetRelease => Sys2Proof.Machine.execPinResetRelease s
  | .csFall => Sys2Proof.Machine.execCsFall s
  | .csRise => Sys2Proof.Machine.execCsRise s
  | .badCommand code => Sys2Proof.Machine.execBadCommand code s
  | .getItem scope index item => Sys2Proof.Machine.execGetItem scope index item s
  | .setItem scope index item value => Sys2Proof.Machine.execSetItem scope index item value s
  | .setChannelItem channel item value => Sys2Proof.Machine.execSetChannelItem channel item value s
  | .setDescriptorItem descriptor item value => Sys2Proof.Machine.execSetDescriptorItem descriptor item value s
  | .setTickDiv value => Sys2Proof.Machine.execSetTickDiv value s
  | .setPartInitiator value => Sys2Proof.Machine.execSetPartInitiator value s
  | .setRespLimit value => Sys2Proof.Machine.execSetRespLimit value s
  | .setEventMask value => Sys2Proof.Machine.execSetEventMask value s
  | .enableChannel channel => Sys2Proof.Machine.execEnableChannel channel s
  | .disableChannel channel => Sys2Proof.Machine.execDisableChannel channel s
  | .getChannelState channel => Sys2Proof.Machine.execGetChannelState channel s
  | .getCounters channel => Sys2Proof.Machine.execGetCounters channel s
  | .clearCounters channel => Sys2Proof.Machine.execClearCounters channel s
  | .popEvent => Sys2Proof.Machine.execPopEvent s
  | .clearEvents => Sys2Proof.Machine.execClearEvents s
  | .getStatus => Sys2Proof.Machine.execGetStatus s
  | .getTime => Sys2Proof.Machine.execGetTime s
  | .softReset => Sys2Proof.Machine.execSoftReset s
  | .softResetCompletion => Sys2Proof.Machine.execSoftResetCompletion s
  | .takeRequest kind addr len init tag be data => Sys2Proof.Machine.execTakeRequest kind addr len init tag be data s
  | .classification => Sys2Proof.Machine.execClassification s
  | .releasedReadMove => Sys2Proof.Machine.execReleasedReadMove s
  | .deadlineReached channel => Sys2Proof.Machine.execDeadlineReached channel s
  | .grant => Sys2Proof.Machine.execGrant s
  | .issue => Sys2Proof.Machine.execIssue s
  | .response init tag status data => Sys2Proof.Machine.execResponse init tag status data s
  | .timeout entry => Sys2Proof.Machine.execTimeout entry s
  | .spiByte mosi => Sys2Proof.Machine.execSpiByte mosi s

end Sys2Proof.Machine
end

