-- ==== Sys2Proof/Safety.lean ====
section
/-! DEFINITION. What counts as a safe state: the invariants the spec states of the part, in the terms the statements use. -/

namespace Sys2Proof.Machine

/-- The part's collections never pass their capacities (R105, R117, R119, R91, R141, R70). -/
def State.withinCapacity (s : State) : Prop :=
  s.intake.length ≤ 16 ∧ s.forward.length ≤ 8 ∧ s.hold.length ≤ 8 ∧ s.records.length ≤ 8 ∧ s.events.length ≤ 32
    ∧ ∀ c, (s.chan c).rt.history.length ≤ 8

/-- Every channel item lies in the range of R1, and steps at or above the schedule length are (0, POSITION) (R3). -/
def ChanConfig.inRange (cfg : ChanConfig) : Prop :=
  cfg.intakeBase.toNat % 16 = 0 ∧ cfg.outputBase.toNat % 32 = 0 ∧ cfg.outputDepth ∈ [1, 2, 4, 8, 16]
    ∧ 1 ≤ cfg.schedule.len ∧ cfg.schedule.len ≤ 4
    ∧ (∀ k : Fin 4, cfg.schedule.len ≤ k.val → cfg.schedule.steps[k] = ⟨0, .position⟩)
    ∧ 1 ≤ cfg.limit ∧ cfg.limit ≤ 16777215 ∧ 1 ≤ cfg.persist ∧ cfg.persist ≤ 15
    ∧ 16 ≤ cfg.nominal ∧ cfg.nominal ≤ 16777215 ∧ cfg.avgDepth ∈ [1, 2, 4, 8]
    ∧ 17 ≤ cfg.deadlineK ∧ cfg.deadlineK ≤ 64 ∧ cfg.guardG ≤ 15 ∧ 1 ≤ cfg.missLimit ∧ cfg.missLimit ≤ 15

/-- The parts of a present field slot lie in the ranges of R23. -/
def FieldSlot.inRange (f : FieldSlot) : Prop := f.word ≤ 3 ∧ f.start ≤ 31 ∧ 1 ≤ f.width ∧ f.width ≤ 32

/-- Every descriptor item lies in the range of R22 and R23. -/
def Descriptor.inRange (d : Descriptor) : Prop :=
  1 ≤ d.frameWords ∧ d.frameWords ≤ 4 ∧ ∀ k : Fin 4, ∀ f, d.fields[k] = some f → f.inRange

/-- Every configurable item of the part lies in its range (R1, R22, R131). -/
def State.configInRange (s : State) : Prop :=
  (∀ c, (s.chan c).cfg.inRange) ∧ (∀ d : DescId, (s.descs[d]).inRange) ∧ s.respLimit ∈ respLimits

/-- The windows of the channels that are not DISABLED lie apart (R20). -/
def State.windowsApart (s : State) : Prop :=
  ∀ c, (s.chan c).rt.state ≠ .disabled →
    rangesOverlap (s.chan c).cfg.intakeStart 16 (s.chan c).cfg.outputStart (s.chan c).cfg.outputSize = false ∧
    ∀ d, d ≠ c → (s.chan d).rt.state ≠ .disabled → windowsClash (s.chan c).cfg (s.chan d).cfg = false

/-- A channel's timing fields agree with its life-cycle state: the deadline is present in WAITING and RUNNING alone (4.6), a
RUNNING channel has a last arrival and a P_last (R69, R47), and the miss count is within MISS_LIMIT (R80). -/
def Channel.timingAgrees (ch : Channel) : Prop :=
  1 ≤ ch.cfg.missLimit
    ∧ (ch.rt.deadline.isSome = true ↔ ch.rt.state = .waiting ∨ ch.rt.state = .running)
    ∧ (ch.rt.state = .running → ch.rt.lastArrival.isSome = true ∧ ch.rt.pLast.isSome = true)
    ∧ (ch.rt.state = .waiting ∨ ch.rt.state = .running → ch.rt.miss < ch.cfg.missLimit)
    ∧ (ch.rt.state ≠ .disabled → ch.rt.miss ≤ ch.cfg.missLimit)

/-- Every channel's timing fields agree with its state. -/
def State.timingAgrees (s : State) : Prop := ∀ c, (s.chan c).timingAgrees

/-- In RATE mode the last change of OP is within LIMIT (R54), and PRIME occurs in CURVE mode alone (R52). -/
def Channel.rateBounded (ch : Channel) : Prop :=
  ch.rt.state ≠ .disabled →
    (ch.cfg.filterMode = .rate → ch.rt.vel.toInt.natAbs ≤ ch.cfg.limit)
      ∧ (ch.rt.cond = .prime → ch.cfg.filterMode = .curve)

/-- Every channel's outputs keep the bound of R54. -/
def State.rateBounded (s : State) : Prop := ∀ c, (s.chan c).rateBounded

/-- An entry in use that is no orphan and serves a record of the channel. -/
def Entry.serves (x : Entry) (c : ChanId) : Prop := x.holdsDrain c = true

/-- A queued record belongs to a channel in WAITING, RUNNING or LOST; no live record write and no held read is there for a
DISABLED channel (R16, R14). -/
def State.disabledQuiet (s : State) : Prop :=
  (∀ r ∈ s.records, (s.chan r.chan).rt.state.intakeMatched = true)
    ∧ (∀ e c, (s.entry e).serves c → (s.chan c).rt.state ≠ .disabled)
    ∧ (∀ h ∈ s.hold, (s.chan h.chan).rt.state ≠ .disabled)

/-- The entry is in use and GRANTED. -/
def Entry.isGranted (x : Entry) : Prop := ∃ t be d, x.tx = some t ∧ t.phase = .granted be d

/-- The send order lists the GRANTED entries, each once; a request is offered exactly while it is not empty (R130); an orphan
is ISSUED (R124). -/
def State.sendOrderAgrees (s : State) : Prop :=
  (∀ e, e ∈ s.sendOrder ↔ (s.entry e).isGranted)
    ∧ s.sendOrder.Nodup
    ∧ (s.offeredInit.isSome = true ↔ s.sendOrder ≠ [])
    ∧ (∀ e t, (s.entry e).tx = some t → t.orphan = true → ∃ st l, t.phase = .issued st l)

/-- A read on the Hold List that is HELD waits for a slot that is reserved (R101, R119). -/
def State.heldReserved (s : State) : Prop :=
  ∀ h ∈ s.hold, h.cond = .held → s.reserved h.chan h.slot = true

/-- A channel not in DISABLED decodes as its ENABLE found it (R4, R7), its step pointer names a step of its schedule (R41),
and EP agrees with P_last in its low W bits (R47). -/
def State.positionsFollow (s : State) : Prop :=
  ∀ c, (s.chan c).rt.state ≠ .disabled →
    scheduleShape (s.chan c).cfg.schedule s.descs = some ((s.chan c).rt.frameLen, (s.chan c).rt.width)
      ∧ (s.chan c).rt.stepPtr.val < (s.chan c).cfg.schedule.len
      ∧ (s.chan c).rt.width ≤ 48
      ∧ ∀ p, (s.chan c).rt.pLast = some p → p < 2 ^ (s.chan c).rt.width ∧ (s.chan c).rt.ep.toNat % 2 ^ (s.chan c).rt.width = p

/-- While the part is RESETTING every channel is DRAINING or DISABLED (R166, R19). -/
def State.resettingQuiet (s : State) : Prop :=
  s.resetting = true → ∀ c, (s.chan c).rt.state = .draining ∨ (s.chan c).rt.state = .disabled

/-- The spans of two transactions lie apart. -/
def Transaction.apartFrom (t u : Transaction) : Prop :=
  rangesOverlap t.addr.toNat (4 * t.len.toNat) u.addr.toNat (4 * u.len.toNat) = false

/-- The transaction serves a record. -/
def Transaction.servesRecord (t : Transaction) : Bool :=
  match t.origin with
  | .record _ _ _ => true
  | .forward _ _ => false

/-- A channel that is not DISABLED has an aligned output area (R6, check 6), a queued record names a slot of its channel's
area (R90), and the spans of any two record writes in the Tracking Table lie apart, so that at most one record write for a
slot is outstanding (R94). -/
def State.recordWritesApart (s : State) : Prop :=
  (∀ c, (s.chan c).rt.state ≠ .disabled → (s.chan c).cfg.outputStart % (s.chan c).cfg.outputSize = 0)
    ∧ (∀ r ∈ s.records, r.slot < (s.chan r.chan).cfg.outputDepth)
    ∧ ∀ e f t u, e ≠ f → (s.entry e).tx = some t → (s.entry f).tx = some u →
        t.servesRecord = true → u.servesRecord = true → t.apartFrom u

/-! ## The places of an upstream request (R121) -/

/-- A request carries an initiator and a tag. -/
def Request.isFrom (init : BitVec 4) (tag : Byte) (r : Request) : Bool := r.init == init && r.tag == tag

/-- A response carries an initiator and a tag. -/
def UpResponse.isFor (init : BitVec 4) (tag : Byte) (r : UpResponse) : Bool := r.init == init && r.tag == tag

/-- The entry serves a relayed request of the initiator and tag that has not been answered. -/
def Entry.owes (init : BitVec 4) (tag : Byte) (x : Entry) : Bool :=
  match x.tx with
  | some t => !t.orphan && t.origin == .forward init tag
  | none => false

/-- How many requests of an initiator and tag the part has taken and not yet answered: in the Intake Queue, on the Hold List,
in the Forward Queue or in a live Tracking Table entry (R121). -/
def State.unanswered (s : State) (init : BitVec 4) (tag : Byte) : Nat :=
  s.intake.countP (fun h => h.req.isFrom init tag) + s.hold.countP (fun h => h.req.isFrom init tag)
    + s.forward.countP (Request.isFrom init tag) + (List.finRange 24).countP fun e => (s.entry e).owes init tag

/-- How many upstream responses of an initiator and tag the part has given. -/
def State.answersGiven (s : State) (init : BitVec 4) (tag : Byte) : Nat := s.usOut.countP (UpResponse.isFor init tag)

end Sys2Proof.Machine
end

