-- ==== Sys2Proof/Certificates/Slice0/Obligations.lean ====
section
/-! DEFINITION. The statements for the provers, in the order of OBLIGATIONS.json. -/

open Sys2Proof Sys2Proof.Machine

/-! ## The step, time and pins -/

/-- A step takes the command at the front of the queue and runs exec on it with the queue's rest. On an empty queue the block
idles; that clause is the model's choice (log entry 2). -/
def Obligations.StepTakesFrontCommand : Prop :=
  (∀ (c : Instr) (rest : List Instr) (s : State), s.pending = c :: rest →
      step s = exec c { s with pending := rest })
    ∧ ∀ s : State, s.pending = [] → step s = .next s

/-- R64: a tick adds 1 to the counter, wrapping, and the next tick has the length TICK_DIV now gives; while RST# is asserted
the counter is held; everything else stays. Nothing but TICK and the pin reset changes the counter. -/
def Obligations.TimeMovesByTickAlone : Prop :=
  (∀ s : State, s.rstAsserted = false →
      exec .tick s = .next { s with tick := s.tick + 1, tickLen := s.tickDiv })
    ∧ (∀ s : State, s.rstAsserted = true → exec .tick s = .next s)
    ∧ ∀ (i : Instr) (s t : State), exec i s = .next t → i ≠ .tick → i ≠ .pinReset → i ≠ .pinResetRelease →
        t.tick = s.tick

/-- R170: at PIN_RESET every block takes its pin-reset state, and PIN_RESET_RELEASE lets it resume from there. The fields that
stay are outside the part (log entries 4 and 8). -/
def Obligations.PinResetHoldsResetState : Prop :=
  (∀ s : State, exec .pinReset s = .next { State.reset with
      rstAsserted := true, pending := s.pending, csLow := s.csLow, usOut := s.usOut, dqOut := s.dqOut,
      misoOut := s.misoOut, choice := s.choice })
    ∧ ∀ s : State, s.rstAsserted = true → exec .pinResetRelease s = .next { State.reset with
        rstAsserted := false, pending := s.pending, csLow := s.csLow, usOut := s.usOut, dqOut := s.dqOut,
        misoOut := s.misoOut, choice := s.choice }

/-- The values a pin reset leaves: the Reset columns of R1 and R22, the Cleared columns of R4, R49 and R67, the global items,
the counters, the queues and tables. -/
def Obligations.ResetValuesOfThePart : Prop :=
  (∀ c, (State.reset.chan c).cfg =
      ⟨0, 0, 1, none, true, ⟨1, Vector.replicate 4 ⟨0, .position⟩⟩, .off, 16777215, 3, .project, 12500, 4, 24, 0, 3⟩)
    ∧ (∀ c, (State.reset.chan c).rt =
      ⟨.disabled, 0, Vector.replicate 4 0, Vector.replicate 4 false, 1, 1, none, 0, false, 0, false, 0, 0, 0, 0, .track, 0, [],
        12500, none, none, 0, .clean, 0, ⟨false, false, false, false⟩⟩)
    ∧ (∀ c, (State.reset.chan c).ctr = ⟨0, 0, 0, 0, 0, 0, 0, 0, 0⟩)
    ∧ (∀ d : DescId, State.reset.descs[d] = ⟨1, 0, 0, Vector.replicate 4 none⟩)
    ∧ (∀ e, State.reset.entry e = ⟨0, none⟩)
    ∧ State.reset.tick = 0 ∧ State.reset.tickDiv = 3 ∧ State.reset.partInitiator = 15 ∧ State.reset.respLimit = 65536
    ∧ (∀ k, kindEnabled State.reset.eventMask k = true)
    ∧ State.reset.intake = [] ∧ State.reset.forward = [] ∧ State.reset.hold = [] ∧ State.reset.records = []
    ∧ State.reset.outstanding = [] ∧ State.reset.sendOrder = [] ∧ State.reset.lastWinner = .forward
    ∧ State.reset.events = [] ∧ State.reset.overflow = false ∧ State.reset.droppedEvents = 0
    ∧ State.reset.stray = 0 ∧ State.reset.refusedRequests = 0
    ∧ State.reset.resetting = false ∧ State.reset.mgmt.frame = .idle

/-! ## The SPI frame -/

/-- The table of R153 for CS# and for bytes that take no command. While RST# is asserted the port ignores CS# and SCK (R170);
the model's record of the pin level and of MISO is its own (log entries 4 and 8), and so is the 0 held as command byte while
none has been received (log entry 15). -/
def Obligations.SpiFrameTable : Prop :=
  (∀ s : State, s.csLow = false → s.rstAsserted = false → s.mgmt.frame = .idle →
      exec .csFall s = .next { s with csLow := true, mgmt := ⟨.command, 0, [], []⟩, misoOut := [] })
    ∧ (∀ s : State, s.csLow = false → s.rstAsserted = true → exec .csFall s = .next { s with csLow := true })
    ∧ (∀ s : State, s.csLow = true → exec .csRise s = .next { s with csLow := false, mgmt := ⟨.idle, 0, [], []⟩ })
    ∧ (∀ (b : Byte) (s : State), s.rstAsserted = true ∨ s.mgmt.frame = .idle → exec (.spiByte b) s = .next s)
    ∧ (∀ (b : Byte) (s : State) (cmd : Cmd), s.rstAsserted = false → s.mgmt.frame = .command → b = cmd.code →
        0 < cmd.argBytes →
        exec (.spiByte b) s = .next { s with mgmt := ⟨.arguments, b, [], []⟩, misoOut := s.misoOut ++ [0] })
    ∧ (∀ (b : Byte) (s : State) (cmd : Cmd), s.rstAsserted = false → s.mgmt.frame = .arguments → s.mgmt.cmd = cmd.code →
        s.mgmt.args.length + 1 < cmd.argBytes →
        exec (.spiByte b) s =
          .next { s with mgmt := { s.mgmt with args := s.mgmt.args ++ [b] }, misoOut := s.misoOut ++ [0] })
    ∧ (∀ (b : Byte) (s : State), s.rstAsserted = false → s.mgmt.frame = .trailing →
        exec (.spiByte b) s = .next { s with misoOut := s.misoOut ++ [0] })

/-- The byte that completes a command takes it, as the command's own row does (R153, R155, R174), the four value bytes of a
SET_ITEM least significant first; that rows and bytes name one happening is the model's choice (log entry 12). -/
def Obligations.LastByteTakesTheCommand : Prop :=
  ∀ s : State, s.rstAsserted = false →
    (s.mgmt.frame = .command →
      exec (.spiByte 0x20) s = exec .popEvent s ∧ exec (.spiByte 0x21) s = exec .clearEvents s
        ∧ exec (.spiByte 0x30) s = exec .getStatus s ∧ exec (.spiByte 0x31) s = exec .getTime s
        ∧ exec (.spiByte 0x3C) s = exec .softReset s
        ∧ ∀ b : Byte, (∀ cmd : Cmd, b ≠ cmd.code) → exec (.spiByte b) s = exec (.badCommand b) s)
    ∧ (s.mgmt.frame = .arguments → s.mgmt.args = [] → ∀ b : Byte,
        (s.mgmt.cmd = 0x10 → exec (.spiByte b) s = exec (.enableChannel b) s)
          ∧ (s.mgmt.cmd = 0x11 → exec (.spiByte b) s = exec (.disableChannel b) s)
          ∧ (s.mgmt.cmd = 0x12 → exec (.spiByte b) s = exec (.getChannelState b) s)
          ∧ (s.mgmt.cmd = 0x13 → exec (.spiByte b) s = exec (.getCounters b) s)
          ∧ (s.mgmt.cmd = 0x14 → exec (.spiByte b) s = exec (.clearCounters b) s))
    ∧ (∀ scope index item : Byte, s.mgmt.frame = .arguments → s.mgmt.cmd = 0x01 → s.mgmt.args = [scope, index] →
        exec (.spiByte item) s = exec (.getItem scope index item) s)
    ∧ (∀ scope index item v0 v1 v2 v3 : Byte, s.mgmt.frame = .arguments → s.mgmt.cmd = 0x02 →
        s.mgmt.args = [scope, index, item, v0, v1, v2] →
        exec (.spiByte v3) s = exec (.setItem scope index item (v3 ++ v2 ++ v1 ++ v0)) s
          ∧ (scope = 1 → exec (.spiByte v3) s = exec (.setChannelItem index item (v3 ++ v2 ++ v1 ++ v0)) s)
          ∧ (scope = 2 → exec (.spiByte v3) s = exec (.setDescriptorItem index item (v3 ++ v2 ++ v1 ++ v0)) s)
          ∧ (scope = 0 → index = 0 →
              (item = 0 → exec (.spiByte v3) s = exec (.setTickDiv (v3 ++ v2 ++ v1 ++ v0)) s)
                ∧ (item = 1 → exec (.spiByte v3) s = exec (.setPartInitiator (v3 ++ v2 ++ v1 ++ v0)) s)
                ∧ (item = 2 → exec (.spiByte v3) s = exec (.setRespLimit (v3 ++ v2 ++ v1 ++ v0)) s)
                ∧ (item = 3 → exec (.spiByte v3) s = exec (.setEventMask (v3 ++ v2 ++ v1 ++ v0)) s)))

/-- R153, RESPONSE: a run of bytes as long as the response shifts it out whole, in order, whatever MOSI carries, and leaves the
frame in TRAILING; nothing else changes (the command and argument bytes among it: log entry 16). -/
def Obligations.ResponseShiftsOutInOrder : Prop :=
  ∀ (mosi : List Byte) (rest : List Instr) (s : State), s.rstAsserted = false → s.mgmt.frame = .response →
    s.mgmt.resp ≠ [] → mosi.length = s.mgmt.resp.length → s.pending = mosi.map Instr.spiByte ++ rest →
    Sys2Proof.core.run mosi.length s =
      .next { s with
        pending := rest, mgmt := { s.mgmt with frame := .trailing, resp := [] }, misoOut := s.misoOut ++ s.mgmt.resp }

/-- The three common checks of R157: BAD_COMMAND; RESETTING for every command but GET_STATUS and GET_TIME; BAD_ARGUMENT for
a channel argument above 11. In each case the command has no effect and its data bytes are 0 (R154). What the port holds of the
command and argument bytes after the taking is the model's choice, here and in every answer below (log entry 16). -/
def Obligations.CommonChecksRefuse : Prop :=
  (∀ (code : Byte) (s : State), s.rstAsserted = false → s.mgmt.frame = .command → (∀ cmd : Cmd, code ≠ cmd.code) →
      exec (.badCommand code) s = .next { s with mgmt := ⟨.response, code, [], [0x01]⟩, misoOut := s.misoOut ++ [0] })
    ∧ (∀ s : State, s.resetting = true →
        (∀ a b c : Byte, s.atLastByte .getItem [a, b, c] = true →
            exec (.getItem a b c) s = .next (s.answer .getItem .resetting []))
          ∧ (∀ (a b c : Byte) (v : Word), s.atLastByte .setItem (setBytes a b c v) = true →
              exec (.setItem a b c v) s = .next (s.answer .setItem .resetting [])
                ∧ (a = 1 → exec (.setChannelItem b c v) s = .next (s.answer .setItem .resetting []))
                ∧ (a = 2 → exec (.setDescriptorItem b c v) s = .next (s.answer .setItem .resetting []))
                ∧ (a = 0 → b = 0 → c = 0 → exec (.setTickDiv v) s = .next (s.answer .setItem .resetting []))
                ∧ (a = 0 → b = 0 → c = 1 → exec (.setPartInitiator v) s = .next (s.answer .setItem .resetting []))
                ∧ (a = 0 → b = 0 → c = 2 → exec (.setRespLimit v) s = .next (s.answer .setItem .resetting []))
                ∧ (a = 0 → b = 0 → c = 3 → exec (.setEventMask v) s = .next (s.answer .setItem .resetting [])))
          ∧ (∀ b : Byte,
              (s.atLastByte .enable [b] = true → exec (.enableChannel b) s = .next (s.answer .enable .resetting []))
                ∧ (s.atLastByte .disable [b] = true → exec (.disableChannel b) s = .next (s.answer .disable .resetting []))
                ∧ (s.atLastByte .getState [b] = true →
                    exec (.getChannelState b) s = .next (s.answer .getState .resetting []))
                ∧ (s.atLastByte .getCounters [b] = true →
                    exec (.getCounters b) s = .next (s.answer .getCounters .resetting []))
                ∧ (s.atLastByte .clearCounters [b] = true →
                    exec (.clearCounters b) s = .next (s.answer .clearCounters .resetting [])))
          ∧ (s.atLastByte .popEvent [] = true → exec .popEvent s = .next (s.answer .popEvent .resetting []))
          ∧ (s.atLastByte .clearEvents [] = true → exec .clearEvents s = .next (s.answer .clearEvents .resetting []))
          ∧ (s.atLastByte .softReset [] = true → exec .softReset s = .next (s.answer .softReset .resetting [])))
    ∧ ∀ (b : Byte) (s : State), s.resetting = false → 12 ≤ b.toNat →
        (s.atLastByte .enable [b] = true → exec (.enableChannel b) s = .next (s.answer .enable .badArgument []))
          ∧ (s.atLastByte .disable [b] = true → exec (.disableChannel b) s = .next (s.answer .disable .badArgument []))
          ∧ (s.atLastByte .getState [b] = true →
              exec (.getChannelState b) s = .next (s.answer .getState .badArgument []))
          ∧ (s.atLastByte .getCounters [b] = true →
              exec (.getCounters b) s = .next (s.answer .getCounters .badArgument []))
          ∧ (s.atLastByte .clearCounters [b] = true →
              exec (.clearCounters b) s = .next (s.answer .clearCounters .badArgument []))

/-! ## Items -/

/-- R158, R159: a selector names an item for scope 0, index 0 and item 0 to 3 (GLOBAL), scope 1, index 0 to 11 and item 0 to
14 (CHANNEL), scope 2, index 0 to 15 and item 0 to 6 (DESCRIPTOR), and then the item of the part, of that channel or of that
descriptor. GET_ITEM answers the item's present value, least significant byte first, and changes nothing; GET_ITEM and
SET_ITEM of a selector that names no item are answered BAD_ARGUMENT and change nothing. -/
def Obligations.SelectorsNameItems : Prop :=
  ∀ (scope index item : Byte) (s : State),
    let names : Prop := (scope.toNat = 0 ∧ index.toNat = 0 ∧ item.toNat ≤ 3)
      ∨ (scope.toNat = 1 ∧ index.toNat ≤ 11 ∧ item.toNat ≤ 14) ∨ (scope.toNat = 2 ∧ index.toNat ≤ 15 ∧ item.toNat ≤ 6)
    (s.resetting = false →
      (s.atLastByte .getItem [scope, index, item] = true →
        (∀ v : Word, s.itemValue scope index item = some v →
          exec (.getItem scope index item) s = .next (s.answer .getItem .ok
            [v.setWidth 8, (v >>> 8).setWidth 8, (v >>> 16).setWidth 8, (v >>> 24).setWidth 8]))
          ∧ (¬ names → exec (.getItem scope index item) s = .next (s.answer .getItem .badArgument [])))
        ∧ ∀ v : Word, s.atLastByte .setItem (setBytes scope index item v) = true → ¬ names →
            exec (.setItem scope index item v) s = .next (s.answer .setItem .badArgument []))
      ∧ (s.itemValue scope index item = none ↔ ¬ names) ∧ (namesItem scope index item = true ↔ names)
      ∧ s.itemValue 0 0 0 = some (s.tickDiv.setWidth 32) ∧ s.itemValue 0 0 1 = some (s.partInitiator.setWidth 32)
      ∧ s.itemValue 0 0 2 = some (BitVec.ofNat 32 s.respLimit) ∧ s.itemValue 0 0 3 = some (s.eventMask.setWidth 32)
      ∧ (∀ c : ChanId, s.itemValue 1 (BitVec.ofNat 8 c.val) item = (s.chan c).cfg.getItem item.toNat)
      ∧ ∀ d : DescId, s.itemValue 2 (BitVec.ofNat 8 d.val) item = (s.descs[d]).getItem item.toNat

/-- R2, R24: a SET_ITEM of a channel item is taken by the channel's life-cycle state first and then by range; one of a descriptor
item by the lock of the channels that name the descriptor first and then by range. Every other item of the channel or
descriptor, and all else but the SPI frame, stays. -/
def Obligations.OwnedItemsLockThenRange : Prop :=
  (∀ (c : ChanId) (item : Byte) (v : Word) (s : State), s.resetting = false → item.toNat < 15 →
      s.atLastByte .setItem (setBytes 1 (BitVec.ofNat 8 c.val) item v) = true →
      ((s.chan c).rt.state ≠ .disabled →
          exec (.setChannelItem (BitVec.ofNat 8 c.val) item v) s = .next (s.answer .setItem .locked []))
        ∧ ((s.chan c).rt.state = .disabled → (s.chan c).cfg.setItem item.toNat v = none →
            exec (.setChannelItem (BitVec.ofNat 8 c.val) item v) s = .next (s.answer .setItem .badArgument []))
        ∧ ∀ cfg, (s.chan c).rt.state = .disabled → (s.chan c).cfg.setItem item.toNat v = some cfg →
            exec (.setChannelItem (BitVec.ofNat 8 c.val) item v) s =
                .next (State.answer { s with chans := s.chans.set c { s.chan c with cfg := cfg } } .setItem .ok [])
              ∧ ∀ m : Nat, m ≠ item.toNat → cfg.getItem m = (s.chan c).cfg.getItem m)
    ∧ (∀ (d : DescId) (item : Byte) (v : Word) (s : State), s.resetting = false → item.toNat < 7 →
      s.atLastByte .setItem (setBytes 2 (BitVec.ofNat 8 d.val) item v) = true →
      ((∃ c, (s.chan c).rt.state ≠ .disabled ∧
            ∃ k : Fin 4, k.val < (s.chan c).cfg.schedule.len ∧ ((s.chan c).cfg.schedule.steps[k]).desc = d) →
          exec (.setDescriptorItem (BitVec.ofNat 8 d.val) item v) s = .next (s.answer .setItem .locked []))
        ∧ ((∀ c, (s.chan c).rt.state ≠ .disabled →
              ∀ k : Fin 4, k.val < (s.chan c).cfg.schedule.len → ((s.chan c).cfg.schedule.steps[k]).desc ≠ d) →
            ((s.descs[d]).setItem item.toNat v = none →
                exec (.setDescriptorItem (BitVec.ofNat 8 d.val) item v) s = .next (s.answer .setItem .badArgument []))
              ∧ ∀ x, (s.descs[d]).setItem item.toNat v = some x →
                  exec (.setDescriptorItem (BitVec.ofNat 8 d.val) item v) s =
                      .next (State.answer { s with descs := s.descs.set d x } .setItem .ok [])
                    ∧ ∀ m : Nat, m ≠ item.toNat → x.getItem m = (s.descs[d]).getItem m))

/-- R65, R126, R131, R143: the SET_ITEM of each global item. TICK_DIV is locked while a channel is out of DISABLED, and the
tick in progress keeps its length. -/
def Obligations.GlobalItemsSet : Prop :=
  ∀ (v : Word) (s : State), s.resetting = false →
    (s.atLastByte .setItem (setBytes 0 0 0 v) = true →
      ((∃ c, (s.chan c).rt.state ≠ .disabled) → exec (.setTickDiv v) s = .next (s.answer .setItem .locked []))
        ∧ ((∀ c, (s.chan c).rt.state = .disabled) →
            (7 < v.toNat → exec (.setTickDiv v) s = .next (s.answer .setItem .badArgument []))
              ∧ (v.toNat ≤ 7 → exec (.setTickDiv v) s =
                  .next (State.answer { s with tickDiv := v.setWidth 3 } .setItem .ok []))))
      ∧ (s.atLastByte .setItem (setBytes 0 0 1 v) = true →
          (15 < v.toNat → exec (.setPartInitiator v) s = .next (s.answer .setItem .badArgument []))
            ∧ (v.toNat ≤ 15 → exec (.setPartInitiator v) s =
                .next (State.answer { s with partInitiator := v.setWidth 4 } .setItem .ok [])))
      ∧ (s.atLastByte .setItem (setBytes 0 0 2 v) = true →
          (∀ k : Nat, 10 ≤ k → k ≤ 20 → v.toNat = 2 ^ k → exec (.setRespLimit v) s =
              .next (State.answer { s with respLimit := v.toNat } .setItem .ok []))
            ∧ ((∀ k : Nat, 10 ≤ k → k ≤ 20 → v.toNat ≠ 2 ^ k) →
                exec (.setRespLimit v) s = .next (s.answer .setItem .badArgument [])))
      ∧ (s.atLastByte .setItem (setBytes 0 0 3 v) = true →
          (v.toNat < 2 ^ 15 → exec (.setEventMask v) s =
              .next (State.answer { s with eventMask := v.setWidth 15 } .setItem .ok []))
            ∧ (2 ^ 15 ≤ v.toNat → exec (.setEventMask v) s = .next (s.answer .setItem .badArgument [])))

/-- 10.4: the items of a channel and of a descriptor in their order (R176). In every scope a value read back and written again
is accepted and changes nothing, and a value accepted reads back as it was written, but for a SCHEDULE (item 5), whose steps
at or above the length read back as zero bits, and an absent field slot, which reads back as 0x00010000 (R177). A global
item accepted leaves the other global items as they were. -/
def Obligations.ReadBackValueIsAccepted : Prop :=
  (∀ cfg : ChanConfig, (List.range 15).map cfg.getItem = [some cfg.intakeBase, some cfg.outputBase,
      some (BitVec.ofNat 32 cfg.outputDepth), some (match cfg.owner with | none => 16 | some i => i.setWidth 32),
      some (if cfg.passraw then 1 else 0), some (packSchedule cfg.schedule),
      some (match cfg.filterMode with | .off => 0 | .rate => 1 | .curve => 2), some (BitVec.ofNat 32 cfg.limit),
      some (BitVec.ofNat 32 cfg.persist), some (match cfg.synthPolicy with | .project => 0 | .hold => 1),
      some (BitVec.ofNat 32 cfg.nominal), some (BitVec.ofNat 32 cfg.avgDepth), some (BitVec.ofNat 32 cfg.deadlineK),
      some (BitVec.ofNat 32 cfg.guardG), some (BitVec.ofNat 32 cfg.missLimit)])
    ∧ (∀ d : Descriptor, (List.range 7).map d.getItem = [some (BitVec.ofNat 32 d.frameWords), some (d.tagExpect.setWidth 32),
      some d.faultMask, some (packField d.fields[0]), some (packField d.fields[1]), some (packField d.fields[2]),
      some (packField d.fields[3])])
    ∧ (∀ (cfg : ChanConfig) (n : Nat) (v : Word), cfg.inRange → cfg.getItem n = some v → cfg.setItem n v = some cfg)
    ∧ (∀ (d : Descriptor) (n : Nat) (v : Word), d.inRange → d.getItem n = some v →
        d.setItem n v = some d)
    ∧ (∀ (cfg cfg' : ChanConfig) (n : Nat) (v : Word), n ≠ 5 → cfg.setItem n v = some cfg' → cfg'.getItem n = some v)
    ∧ (∀ (d d' : Descriptor) (n : Nat) (v : Word), n < 3 ∨ v.getLsbD 0 = true → d.setItem n v = some d' →
        d'.getItem n = some v)
    ∧ ∀ (item : Byte) (v : Word) (s : State), item.toNat ≤ 3 →
        (s.configInRange → s.itemValue 0 0 item = some v → (item = 0 → ∀ c, (s.chan c).rt.state = .disabled) →
            ruleSetItem 0 0 item v s = ⟨s, .ok, []⟩)
          ∧ ((ruleSetItem 0 0 item v s).status = .ok →
              (ruleSetItem 0 0 item v s).state.itemValue 0 0 item = some v
                ∧ ∀ m : Byte, m ≠ item → (ruleSetItem 0 0 item v s).state.itemValue 0 0 m = s.itemValue 0 0 m)

/-- R177: the packed forms of SCHEDULE and FIELD. Every schedule and every field slot in range is read back from its word, and
the parts of an accepted word lie at the bits the tables give. A SCHEDULE word is in range exactly when its zero bits are 0
and its length is 1 to 4; a FIELD word is out of range exactly when a zero bit is 1, or its presence bit is 1 and its role is
6 or 7, its width 0 or above 32, or its encoding 3; it makes the slot absent exactly when its zero bits and its presence bit
are 0. -/
def Obligations.PackedFormsRoundTrip : Prop :=
  (∀ sch : Schedule, 1 ≤ sch.len → sch.len ≤ 4 →
      (∀ k : Fin 4, sch.len ≤ k.val → sch.steps[k] = ⟨0, .position⟩) → unpackSchedule (packSchedule sch) = some sch)
    ∧ (∀ slot : Option FieldSlot, (∀ f, slot = some f → f.inRange) → unpackField (packField slot) = some slot)
    ∧ (∀ (v : Word) (sch : Schedule), unpackSchedule v = some sch →
        sch.len = v.toNat / 2 ^ 24 % 8 ∧ ∀ k : Fin 4, k.val < sch.len →
          ((sch.steps[k]).desc.val = v.toNat / 2 ^ (6 * k.val) % 16
            ∧ ((sch.steps[k]).kind = .aux ↔ v.getLsbD (6 * k.val + 4) = true)))
    ∧ (∀ (v : Word) (f : FieldSlot), unpackField v = some (some f) →
        f.role.code = v.toNat / 2 % 8 ∧ f.word = v.toNat / 2 ^ 4 % 4 ∧ f.start = v.toNat / 2 ^ 8 % 32
          ∧ f.width = v.toNat / 2 ^ 16 % 64 ∧ f.encoding.code = v.toNat / 2 ^ 24 % 4)
    ∧ (∀ v : Word, (unpackSchedule v).isSome = true ↔
        (∀ k ∈ [5, 11, 17, 23, 27, 28, 29, 30, 31], v.getLsbD k = false)
          ∧ 1 ≤ v.toNat / 2 ^ 24 % 8 ∧ v.toNat / 2 ^ 24 % 8 ≤ 4)
    ∧ ∀ v : Word,
        let zeros : Prop := ∀ k ∈ [6, 7, 13, 14, 15, 22, 23, 26, 27, 28, 29, 30, 31], v.getLsbD k = false
        (unpackField v = none ↔ ¬ zeros ∨ (v.getLsbD 0 = true
            ∧ (6 ≤ v.toNat / 2 % 8 ∨ v.toNat / 2 ^ 16 % 64 = 0 ∨ 33 ≤ v.toNat / 2 ^ 16 % 64 ∨ v.toNat / 2 ^ 24 % 4 = 3)))
          ∧ (unpackField v = some none ↔ zeros ∧ v.getLsbD 0 = false)

/-! ## Channel commands -/

/-- R25: a descriptor is valid when each present slot meets the four conditions: fit, width by role, encoding by role, one slot
per role. -/
def Obligations.DescriptorValidityConditions : Prop :=
  (∀ d : Descriptor, d.valid = true ↔ ∀ (k : Fin 4) (f : FieldSlot), d.fields[k] = some f →
      32 * f.word + f.start + f.width ≤ 32 * d.frameWords
        ∧ 1 ≤ f.width
        ∧ (f.role = .position → f.width ≤ 32) ∧ (f.role = .turns → f.width ≤ 16) ∧ (f.role = .status → f.width ≤ 16)
        ∧ (f.role = .tag → f.width ≤ 8) ∧ (f.role = .fault → f.width ≤ 32) ∧ (f.role = .auxdata → f.width ≤ 32)
        ∧ (f.encoding = .signed → f.role = .turns) ∧ (f.encoding = .gray → f.role = .position ∨ f.role = .turns)
        ∧ ∀ (j : Fin 4) (g : FieldSlot), j ≠ k → d.fields[j] = some g → g.role ≠ f.role)
    ∧ ∀ d : Descriptor, d.valid = true → d.positionWidth ≤ 48

/-- R6: checks 1 to 5 pass exactly when the five conditions of the table hold, with n the common FRAME_WORDS and W the common
position width; checks 7 and 8 fail exactly when a byte address lies in two of the windows they compare. -/
def Obligations.EnableChecksAsListed : Prop :=
  (∀ (sch : Schedule) (descs : Vector Descriptor 16) (n w : Nat), scheduleShape sch descs = some (n, w) ↔
      (∀ k : Fin 4, k.val < sch.len → (descs[(sch.steps[k]).desc]).valid = true)
        ∧ (∀ k : Fin 4, k.val < sch.len → (descs[(sch.steps[k]).desc]).frameWords = n)
        ∧ (∃ k : Fin 4, k.val < sch.len ∧ (sch.steps[k]).kind = .position)
        ∧ (∀ k : Fin 4, k.val < sch.len → (sch.steps[k]).kind = .position →
            ((descs[(sch.steps[k]).desc]).field .position).isSome = true)
        ∧ ∀ k : Fin 4, k.val < sch.len → (sch.steps[k]).kind = .position →
            (descs[(sch.steps[k]).desc]).positionWidth = w)
    ∧ ∀ (s : State) (c : ChanId),
        let intake (cfg : ChanConfig) (a : Nat) : Prop := cfg.intakeBase.toNat ≤ a ∧ a < cfg.intakeBase.toNat + 16
        let output (cfg : ChanConfig) (a : Nat) : Prop :=
          cfg.outputBase.toNat ≤ a ∧ a < cfg.outputBase.toNat + 32 * cfg.outputDepth
        (s.windowOverlap c = true ↔
          (∃ a, intake (s.chan c).cfg a ∧ output (s.chan c).cfg a)
            ∨ ∃ d a, d ≠ c ∧ (s.chan d).rt.state ≠ .disabled
                ∧ (intake (s.chan c).cfg a ∨ output (s.chan c).cfg a)
                ∧ (intake (s.chan d).cfg a ∨ output (s.chan d).cfg a))

/-- R6, R7, R8: the answers of ENABLE_CHANNEL in their order, and the effects of an accepted one: WAITING, every runtime field
at its After ENABLE value (R4, R49, R67), the deadline NOMINAL × K/16 after now, the nine counters 0. -/
def Obligations.EnableOutcomes : Prop :=
  ∀ (c : ChanId) (s : State), s.resetting = false → s.atLastByte .enable [BitVec.ofNat 8 c.val] = true →
    let cfg := (s.chan c).cfg
    ((s.chan c).rt.state ≠ .disabled →
        exec (.enableChannel (BitVec.ofNat 8 c.val)) s = .next (s.answer .enable .locked []))
      ∧ ((s.chan c).rt.state = .disabled → scheduleShape cfg.schedule s.descs = none →
          exec (.enableChannel (BitVec.ofNat 8 c.val)) s = .next (s.answer .enable .invalidConfig []))
      ∧ ∀ n w, (s.chan c).rt.state = .disabled → scheduleShape cfg.schedule s.descs = some (n, w) →
          (cfg.outputBase.toNat % (32 * cfg.outputDepth) ≠ 0 →
              exec (.enableChannel (BitVec.ofNat 8 c.val)) s = .next (s.answer .enable .invalidConfig []))
            ∧ (cfg.outputBase.toNat % (32 * cfg.outputDepth) = 0 →
                (s.windowOverlap c = true →
                    exec (.enableChannel (BitVec.ofNat 8 c.val)) s = .next (s.answer .enable .overlap []))
                  ∧ (s.windowOverlap c = false →
                      let fresh : Channel := ⟨cfg,
                        ⟨.waiting, 0, Vector.replicate 4 0, Vector.replicate 4 false, n, w, none, 0, false, 0, false,
                          0, 0, 0, 0, .track, 0, [], cfg.nominal,
                          some (s.tick + BitVec.ofNat 32 (cfg.nominal * cfg.deadlineK / 16)), none, 0, .clean, 0,
                          ⟨false, false, false, false⟩⟩,
                        ⟨0, 0, 0, 0, 0, 0, 0, 0, 0⟩⟩
                      exec (.enableChannel (BitVec.ofNat 8 c.val)) s =
                        .next (State.answer { s with chans := s.chans.set c fresh } .enable .ok [])))

/-- R14, R99, R16: DISABLE_CHANNEL is answered OK in every state. In DRAINING and DISABLED nothing changes. In WAITING, RUNNING
and LOST the deadline goes, the channel's queued records are discarded without count or event, the reads held for slots whose
last record this was are released, and the channel is DRAINING, or DISABLED with CH_DRAINED where no entry but an orphan
serves a record of it and no read is held for it. -/
def Obligations.DisableOutcomes : Prop :=
  ∀ (c : ChanId) (s : State), s.resetting = false → s.atLastByte .disable [BitVec.ofNat 8 c.val] = true →
    ((s.chan c).rt.state = .disabled ∨ (s.chan c).rt.state = .draining →
        exec (.disableChannel (BitVec.ofNat 8 c.val)) s = .next (s.answer .disable .ok []))
      ∧ ((s.chan c).rt.state = .waiting ∨ (s.chan c).rt.state = .running ∨ (s.chan c).rt.state = .lost →
          let freed (h : HoldEntry) : Bool := h.chan == c
            && s.records.any (fun r => r.chan == c && r.slot == h.slot)
            && !s.outstanding.any (fun o => o.chan == c && o.slot == h.slot)
          let left (st : LifeCycle) : State := { s with
            chans := s.chans.set c { s.chan c with rt := { (s.chan c).rt with state := st, deadline := none } }
            records := s.records.filter fun r => r.chan != c
            hold := s.hold.map fun h => if freed h then { h with cond := .released } else h }
          let busy : Prop := (∃ e t q x, (s.entry e).tx = some t ∧ t.orphan = false ∧ t.origin = .record c q x)
            ∨ ∃ h ∈ s.hold, h.chan = c
          (busy → exec (.disableChannel (BitVec.ofNat 8 c.val)) s = .next ((left .draining).answer .disable .ok []))
            ∧ (¬ busy → exec (.disableChannel (BitVec.ofNat 8 c.val)) s =
                .next (((left .disabled).logEvent ⟨.chDrained, some c, 0⟩).answer .disable .ok [])))

/-- R161, R175: GET_CHANNEL_STATE changes nothing of the channel and answers OK with 56 bytes; the fields stand at the offsets
of the table, values of several bytes least significant byte first, an absent deadline or last arrival as 0 with its presence
bit clear. -/
def Obligations.SnapshotBytes : Prop :=
  (∀ (c : ChanId) (s : State), s.resetting = false → s.atLastByte .getState [BitVec.ofNat 8 c.val] = true →
      exec (.getChannelState (BitVec.ofNat 8 c.val)) s = .next (s.answer .getState .ok (snapshot (s.chan c).rt)))
    ∧ ∀ rt : Runtime,
        let at_ (offset n : Nat) : Nat := leNat (((snapshot rt).drop offset).take n)
        (snapshot rt).length = 56
          ∧ at_ 0 1 = (match rt.state with | .disabled => 0 | .waiting => 1 | .running => 2 | .lost => 3 | .draining => 4)
          ∧ at_ 1 1 = (match rt.cond with | .prime => 0 | .track => 1 | .holdover => 2 | .slew => 3)
          ∧ at_ 2 1 = rt.stepPtr.val
          ∧ (rt.miss < 256 → at_ 3 1 = rt.miss)
          ∧ (∀ k : Fin 4, (at_ 4 1).testBit k.val = rt.marks[k]) ∧ at_ 4 1 < 16
          ∧ (rt.history.length < 256 → at_ 5 1 = rt.history.length)
          ∧ at_ 6 1 = (if rt.deadline.isSome then 1 else 0) + (if rt.lastArrival.isSome then 2 else 0)
          ∧ (rt.viol < 256 → at_ 7 1 = rt.viol)
          ∧ (rt.base < 2 ^ 32 → at_ 8 4 = rt.base)
          ∧ at_ 12 4 = (rt.deadline.getD 0).toNat
          ∧ at_ 16 4 = (rt.lastArrival.getD 0).toNat
          ∧ at_ 20 6 = rt.ep.toNat ∧ at_ 26 6 = rt.op.toNat ∧ at_ 32 6 = rt.vel.toNat
          ∧ at_ 38 2 = rt.nextSeq.toNat
          ∧ ∀ k : Fin 4, at_ (40 + 4 * k.val) 4 = (rt.staging[k]).toNat

/-- R162: GET_COUNTERS answers OK with the nine counters, two bytes each, in the order given, and changes nothing;
CLEAR_COUNTERS answers OK and sets the nine counters of the channel to 0 and changes nothing else. -/
def Obligations.CountersReadAndCleared : Prop :=
  ∀ (c : ChanId) (s : State), s.resetting = false →
    (s.atLastByte .getCounters [BitVec.ofNat 8 c.val] = true →
        let k := (s.chan c).ctr
        exec (.getCounters (BitVec.ofNat 8 c.val)) s = .next (s.answer .getCounters .ok
          ([k.frames, k.auxFrames, k.faults, k.early, k.synth, k.limited, k.dropped, k.failed, k.refused].flatMap
            fun x : Half => [x.setWidth 8, (x >>> 8).setWidth 8])))
      ∧ (s.atLastByte .clearCounters [BitVec.ofNat 8 c.val] = true →
          exec (.clearCounters (BitVec.ofNat 8 c.val)) s = .next (State.answer { s with
            chans := s.chans.set c { s.chan c with ctr := ⟨0, 0, 0, 0, 0, 0, 0, 0, 0⟩ } } .clearCounters .ok []))

/-! ## Events, status and time -/

/-- R163: POP_EVENT removes the oldest entry and answers its eight bytes (kind, channel or 0xFF, detail, stamp), or EMPTY
with eight zero bytes; CLEAR_EVENTS answers OK and empties the FIFO with its overflow record (R145); EVT# follows the FIFO. -/
def Obligations.PopAndClearEvents : Prop :=
  ∀ s : State, s.resetting = false →
    (s.atLastByte .popEvent [] = true →
      (∀ e rest, s.events = e :: rest →
          exec .popEvent s = .next (State.answer { s with events := rest } .popEvent .ok
            [BitVec.ofNat 8 e.kind.number, (match e.chan with | some c => BitVec.ofNat 8 c.val | none => 0xFF),
              e.detail.setWidth 8, (e.detail >>> 8).setWidth 8,
              e.stamp.setWidth 8, (e.stamp >>> 8).setWidth 8, (e.stamp >>> 16).setWidth 8, (e.stamp >>> 24).setWidth 8])
            ∧ (State.evtLow { s with events := rest } = true ↔ rest ≠ []))
        ∧ (s.events = [] →
            exec .popEvent s = .next (s.answer .popEvent .empty [0, 0, 0, 0, 0, 0, 0, 0]) ∧ s.evtLow = false))
      ∧ (s.atLastByte .clearEvents [] = true →
          exec .clearEvents s =
              .next (State.answer { s with events := [], overflow := false, droppedEvents := 0 } .clearEvents .ok [])
            ∧ State.evtLow { s with events := [], overflow := false, droppedEvents := 0 } = false)

/-- R164, R165: GET_STATUS and GET_TIME are answered OK in every state of the part, RESETTING included, with the twelve bytes of
the status block and the tick count of the moment, and have no effect on the part. -/
def Obligations.StatusAndTimeAnswered : Prop :=
  (∀ s : State, s.atLastByte .getStatus [] = true →
    exec .getStatus s = .next (s.answer .getStatus .ok
      [BitVec.ofNat 8 s.events.length,
        BitVec.ofNat 8 ((if s.overflow then 1 else 0) + (if s.resetting then 2 else 0)),
        BitVec.ofNat 8 s.intake.length, BitVec.ofNat 8 s.forward.length, BitVec.ofNat 8 s.hold.length,
        BitVec.ofNat 8 s.records.length,
        BitVec.ofNat 8 ((List.finRange 24).countP fun e => (s.entry e).tx.isSome),
        s.stray.setWidth 8, (s.stray >>> 8).setWidth 8,
        s.refusedRequests.setWidth 8, (s.refusedRequests >>> 8).setWidth 8, s.droppedEvents]))
    ∧ ∀ s : State, s.atLastByte .getTime [] = true →
        exec .getTime s = .next (s.answer .getTime .ok
          [s.tick.setWidth 8, (s.tick >>> 8).setWidth 8, (s.tick >>> 16).setWidth 8, (s.tick >>> 24).setWidth 8])

/-- R142, R143, R144. One event: masked, nothing changes; with room, it is entered after the newest with the tick count of the
moment; at a full FIFO it is dropped, OVERFLOW set and DROPPED_EVENTS counted up to 255. The events of one happening are each
taken once, those of one block in that block's order; the order between blocks is free, so the statement holds for every value
of `choice` (log entry 3). -/
def Obligations.EventsTakenWhole : Prop :=
  (∀ (e : RawEvent) (s : State),
    (s.eventMask.getLsbD e.kind.number = false → s.logEvent e = s)
      ∧ (s.eventMask.getLsbD e.kind.number = true → s.events.length < 32 →
          s.logEvent e = { s with events := s.events ++ [⟨e.kind, e.chan, s.tick, e.detail⟩] })
      ∧ (s.eventMask.getLsbD e.kind.number = true → 32 ≤ s.events.length →
          s.logEvent e = { s with
            overflow := true, droppedEvents := BitVec.ofNat 8 (min 255 (s.droppedEvents.toNat + 1)) }))
    ∧ ∀ (blocks : List (List RawEvent)) (s : State), ∃ (order : List RawEvent) (k : Nat),
        s.raise blocks = order.foldl State.logEvent { s with choice := k }
          ∧ order.Perm blocks.flatten ∧ ∀ b ∈ blocks, b.Sublist order

/-! ## Soft reset -/

/-- R166, R14, R99, R101, R16: SOFT_RESET is answered OK; RESETTING is set; every channel in WAITING, RUNNING or LOST loses its
deadline and its queued records and is DRAINING, or DISABLED where no entry but an orphan serves a record of it and no read is
held for it; the reads held for slots whose last record was discarded are released; CH_DRAINED is raised once for each
channel that becomes DISABLED; everything else stays. The order of the CH_DRAINED events is free (log entry 3). -/
def Obligations.SoftResetDisablesChannels : Prop :=
  ∀ s : State, s.resetting = false → s.atLastByte .softReset [] = true →
    let live (c : ChanId) : Prop :=
      (s.chan c).rt.state = .waiting ∨ (s.chan c).rt.state = .running ∨ (s.chan c).rt.state = .lost
    let busy (c : ChanId) : Prop := (∃ e t q x, (s.entry e).tx = some t ∧ t.orphan = false ∧ t.origin = .record c q x)
      ∨ ∃ h ∈ s.hold, h.chan = c
    let freed (h : HoldEntry) : Bool := (s.chan h.chan).rt.state.intakeMatched
      && s.records.any (fun r => r.chan == h.chan && r.slot == h.slot)
      && !s.outstanding.any (fun o => o.chan == h.chan && o.slot == h.slot)
    ∃ (gone : List ChanId) (k : Nat) (chans : Vector Channel 12),
      exec .softReset s = .next (State.answer
        ((gone.map fun c => (⟨.chDrained, some c, 0⟩ : RawEvent)).foldl State.logEvent { s with
          resetting := true
          chans := chans
          records := s.records.filter fun r => !(s.chan r.chan).rt.state.intakeMatched
          hold := s.hold.map fun h => if freed h then { h with cond := .released } else h
          choice := k }) .softReset .ok [])
      ∧ gone.Nodup ∧ (∀ c, c ∈ gone ↔ live c ∧ ¬ busy c)
      ∧ ∀ c, (¬ live c → chans[c] = s.chan c)
          ∧ (live c → chans[c] = { s.chan c with rt := { (s.chan c).rt with
              deadline := none, state := if c ∈ gone then .disabled else .draining } })

/-- R168, R169: the completion condition holds exactly when the Intake Queue, the Forward Queue, the Hold List and the Record
Queue are empty and no Tracking Table entry is in use without being an orphan. At the completion the channels' runtime fields
and counters are cleared, the orphans freed with their generations advanced, the Event Unit cleared and RESET_DONE raised,
and RESETTING cleared; configuration, descriptors, global items, time, last winner and the other generations are kept. While
the condition does not hold, or the part is not RESETTING, nothing is completed (that it changes nothing: log entry 1). -/
def Obligations.SoftResetCompletionClears : Prop :=
  (∀ s : State, s.resetComplete = true ↔ s.intake = [] ∧ s.forward = [] ∧ s.hold = [] ∧ s.records = []
      ∧ ∀ e t, (s.entry e).tx = some t → t.orphan = true)
    ∧ (∀ s : State, s.rstAsserted = false → s.resetting = true → s.resetComplete = true →
      exec .softResetCompletion s = .next { s with
        chans := s.chans.map fun ch => ⟨ch.cfg, Runtime.cleared ch.cfg.nominal, ⟨0, 0, 0, 0, 0, 0, 0, 0, 0⟩⟩
        table := s.table.map fun x => if x.tx.isSome then ⟨x.gen + 1, none⟩ else x
        overflow := false, droppedEvents := 0, stray := 0, refusedRequests := 0
        events := if kindEnabled s.eventMask .resetDone then [⟨.resetDone, none, s.tick, 0⟩] else []
        resetting := false })
    ∧ ∀ s : State, s.resetting = false ∨ s.resetComplete = false → exec .softResetCompletion s = .next s

/-- R168: once the completion condition holds it continues to hold until the completion or a pin reset, whatever is taken. -/
def Obligations.ResetCompletionPersists : Prop :=
  ∀ (i : Instr) (s t : State), i ≠ .softResetCompletion → i ≠ .pinReset → i ≠ .pinResetRelease →
    s.resettingQuiet → s.resetting = true → s.resetComplete = true → exec i s = .next t →
    t.resetting = true ∧ t.resetComplete = true

/-! ## Upstream traffic -/

/-- R105, R106, R171: a request offered is taken, with the tick count as its stamp, after the newest entry, when the Intake
Queue has a free entry and the part is neither RESETTING nor in pin reset; otherwise it is not taken (it waits on the link,
log entry 1). Data and enable lanes of words at or above the length, and all of a READ, are held as 0 (log entry 5). -/
def Obligations.RequestTakenOrWaits : Prop :=
  ∀ (kind : BitVec 1) (addr : Word) (len : BitVec 3) (init : BitVec 4) (tag : Byte) (be : Half) (data : BitVec 128)
    (s : State),
    (s.rstAsserted = false → s.resetting = false → s.intake.length < 16 →
      ∃ r : Request, exec (.takeRequest kind addr len init tag be data) s =
          .next { s with intake := s.intake ++ [⟨r, s.tick⟩] }
        ∧ (r.kind = .read ↔ kind = 0) ∧ r.addr = addr ∧ r.len = len ∧ r.init = init ∧ r.tag = tag
        ∧ (∀ k, r.be.getLsbD k = (decide (kind = 1) && decide (k < 4 * len.toNat) && be.getLsbD k))
        ∧ ∀ k, r.data.getLsbD k = (decide (kind = 1) && decide (k < 32 * len.toNat) && data.getLsbD k))
      ∧ (s.rstAsserted = true ∨ s.resetting = true ∨ 16 ≤ s.intake.length →
          exec (.takeRequest kind addr len init tag be data) s = .next s)

/-- R108, with R18, R19 and R20: the verdict of an examination, while the windows lie apart and the bases are aligned. A request
that breaks the form rule is that and nothing else; a well-formed request that has a byte in a matched window is of that
window's channel; one that has none is plain. -/
def Obligations.ClassifierNamesTheWindow : Prop :=
  ∀ (s : State) (r : Request), s.windowsApart → s.configInRange →
    let breaks : Prop := r.addr.toNat % 4 ≠ 0 ∨ r.len = 0 ∨ 16 < r.addr.toNat % 16 + 4 * r.len.toNat
    let meets (base size : Nat) : Prop :=
      ∃ a, r.addr.toNat ≤ a ∧ a < r.addr.toNat + 4 * r.len.toNat ∧ base ≤ a ∧ a < base + size
    let inOutput (c : ChanId) : Prop := (s.chan c).rt.state ≠ .disabled ∧
      meets (s.chan c).cfg.outputBase.toNat (32 * (s.chan c).cfg.outputDepth)
    let inIntake (c : ChanId) : Prop :=
      ((s.chan c).rt.state = .waiting ∨ (s.chan c).rt.state = .running ∨ (s.chan c).rt.state = .lost)
        ∧ meets (s.chan c).cfg.intakeBase.toNat 16
    let owned (c : ChanId) : Prop := (s.chan c).cfg.owner = none ∨ (s.chan c).cfg.owner = some r.init
    (breaks → s.classify r = .breaksForm)
      ∧ (¬ breaks →
          (∀ c, inOutput c → r.kind = .write → s.classify r = .writeRefused c)
            ∧ (∀ c, inOutput c → r.kind = .read → s.classify r = .outputRead c)
            ∧ (∀ c, inIntake c → r.kind = .write → ¬ owned c → s.classify r = .intruder c)
            ∧ (∀ c, inIntake c → r.kind = .write → owned c → s.classify r = .intake c)
            ∧ (∀ c, inIntake c → r.kind = .read → s.classify r = .plain)
            ∧ ((∀ c, ¬ inOutput c ∧ ¬ inIntake c) → s.classify r = .plain))

/-- R109, R110, R111: the refusals, which need no room. The head leaves the Intake Queue, is answered REFUSED with as many
zero words as a read's length gives, one counter rises and one event is logged with the initiator as its detail; nothing is
staged or relayed. No move of a RELEASED read is due: it would come first (R101, log entry 13). The answers stand in the
model's trace of responses (log entry 4). -/
def Obligations.RefusedRequestsAnswered : Prop :=
  ∀ (h : IntakeEntry) (rest : List IntakeEntry) (s : State), s.rstAsserted = false → s.intake = h :: rest →
    (∀ x ∈ s.hold, x.cond = .held) ∨ 8 ≤ s.forward.length →
    let refusal : UpResponse := ⟨h.req.init, h.req.tag, .refused,
      match h.req.kind with | .read => List.replicate h.req.len.toNat 0 | .write => []⟩
    let bump (c : ChanId) : Vector Channel 12 := s.chans.set c { s.chan c with
      ctr := { (s.chan c).ctr with refused := BitVec.ofNat 16 (min 65535 ((s.chan c).ctr.refused.toNat + 1)) } }
    let answered (t : State) : State := { t with usOut := s.usOut ++ [refusal] }
    (s.classify h.req = .breaksForm →
        exec .classification s = .next (answered (State.logEvent { s with
          intake := rest, refusedRequests := BitVec.ofNat 16 (min 65535 (s.refusedRequests.toNat + 1)) }
          ⟨.requestRefused, none, h.req.init.setWidth 16⟩)))
      ∧ (∀ c, s.classify h.req = .writeRefused c →
          exec .classification s = .next (answered (State.logEvent { s with intake := rest, chans := bump c }
            ⟨.writeRefused, some c, h.req.init.setWidth 16⟩)))
      ∧ ∀ c, s.classify h.req = .intruder c →
          exec .classification s = .next (answered (State.logEvent { s with intake := rest, chans := bump c }
            ⟨.intruder, some c, h.req.init.setWidth 16⟩))

/-- R101, R107, R114, R115, R120: plain traffic, and output-area reads of free and of reserved slots. With the room they need,
the head joins the Forward Queue or the Hold List; without it, or with a RELEASED read waiting for the Forward Queue, the
examination has no effect; a read joins the Hold List also while a RELEASED read waits before a full Forward Queue. While a
RELEASED read can move, no head of any kind is taken: each move is made first. How R101 and R120 go together is read from both
(log entry 13). -/
def Obligations.RelayedOrHeldByRoom : Prop :=
  (∀ s : State, (∃ x ∈ s.hold, x.cond = .released) → s.forward.length < 8 → exec .classification s = .next s)
    ∧ ∀ (h : IntakeEntry) (rest : List IntakeEntry) (s : State), s.rstAsserted = false → s.intake = h :: rest →
      let room : Prop := s.forward.length < 8 ∧ ∀ x ∈ s.hold, x.cond = .held
      let relays : Prop := s.classify h.req = .plain
        ∨ ∃ c, s.classify h.req = .outputRead c
            ∧ s.reserved c ((h.req.addr.toNat - (s.chan c).cfg.outputBase.toNat) / 32) = false
      (relays → room → exec .classification s = .next { s with intake := rest, forward := s.forward ++ [h.req] })
        ∧ (relays → ¬ room → exec .classification s = .next s)
        ∧ ∀ c slot, s.classify h.req = .outputRead c → slot = (h.req.addr.toNat - (s.chan c).cfg.outputBase.toNat) / 32 →
            s.reserved c slot = true → (∀ x ∈ s.hold, x.cond = .held) ∨ 8 ≤ s.forward.length →
            (s.hold.length < 8 →
                exec .classification s = .next { s with intake := rest, hold := s.hold ++ [⟨h.req, c, slot, .held⟩] })
              ∧ (8 ≤ s.hold.length → exec .classification s = .next s)

/-- R112, R113: an intake write is handed to the Frame Unit and then relayed unchanged (PASSRAW 1, which needs room) or
answered OK without data (PASSRAW 0, which needs none, once no move of a RELEASED read is due before it: R101, log entry 13).
Without the room the examination has no effect. The answers stand in the model's trace of responses (log entry 4). -/
def Obligations.IntakeWriteStagedThenPassed : Prop :=
  ∀ (h : IntakeEntry) (rest : List IntakeEntry) (c : ChanId) (s : State), s.rstAsserted = false →
    s.intake = h :: rest → s.classify h.req = .intake c →
    let room : Prop := s.forward.length < 8 ∧ ∀ x ∈ s.hold, x.cond = .held
    let taken : State := State.intakeWrite { s with intake := rest } c h.req h.stamp
    ((s.chan c).cfg.passraw = false → (∀ x ∈ s.hold, x.cond = .held) ∨ 8 ≤ s.forward.length →
        exec .classification s =
          .next { taken with usOut := s.usOut ++ [⟨h.req.init, h.req.tag, .ok, []⟩] })
      ∧ ((s.chan c).cfg.passraw = true → room →
          exec .classification s = .next { taken with forward := s.forward ++ [h.req] })
      ∧ ((s.chan c).cfg.passraw = true → ¬ room → exec .classification s = .next s)

/-- R28 to R30: for each staging word, a write that covers it below the frame length replaces exactly its enabled bytes and sets
the word's mark to whether all four are enabled; every other word and mark, and every other runtime field, stays. The frame
commits exactly when the write covers word n − 1 with all four byte enables set; a write that does not commit is staged and
does nothing else. -/
def Obligations.StagingMergesEnabledBytes : Prop :=
  (∀ (cfg : ChanConfig) (rt : Runtime) (r : Request) (j : Fin 4),
    let first := (r.addr.toNat - cfg.intakeBase.toNat) / 4
    let covered : Prop := j.val < rt.frameLen ∧ first ≤ j.val ∧ j.val < first + r.len.toNat
    let rt' := stageWrite cfg rt r
    (covered → ∀ b : Fin 4, ∀ k : Fin 8,
        (rt'.staging[j]).getLsbD (8 * b.val + k.val) =
          if r.be.getLsbD (4 * (j.val - first) + b.val) then
            r.data.getLsbD (32 * (j.val - first) + 8 * b.val + k.val)
          else (rt.staging[j]).getLsbD (8 * b.val + k.val))
      ∧ (covered → (rt'.marks[j] = true ↔ ∀ b : Fin 4, r.be.getLsbD (4 * (j.val - first) + b.val) = true))
      ∧ (¬ covered → rt'.staging[j] = rt.staging[j] ∧ rt'.marks[j] = rt.marks[j])
      ∧ rt' = { rt with staging := rt'.staging, marks := rt'.marks })
    ∧ (∀ (cfg : ChanConfig) (rt : Runtime) (r : Request),
      let first := (r.addr.toNat - cfg.intakeBase.toNat) / 4
      commits cfg rt r = true ↔ first ≤ rt.frameLen - 1 ∧ rt.frameLen - 1 < first + r.len.toNat
        ∧ ∀ b : Fin 4, r.be.getLsbD (4 * (rt.frameLen - 1 - first) + b.val) = true)
    ∧ ∀ (c : ChanId) (r : Request) (stamp : Word) (s : State), commits (s.chan c).cfg (s.chan c).rt r = false →
        s.intakeWrite c r stamp = { s with
          chans := s.chans.set c { s.chan c with rt := stageWrite (s.chan c).cfg (s.chan c).rt r } }

/-- R26, R27: bit i of a field's raw value is bit 32w + s + i of the frame read as one run of bits, for i below its width; bit i
of a GRAY value is the exclusive-OR of raw bits i to width − 1; BINARY and SIGNED hand on the raw value. -/
def Obligations.FieldBitsExtracted : Prop :=
  ∀ (words : Vector Word 4) (f : FieldSlot) (i : Nat), 32 * f.word + f.start + f.width ≤ 128 →
    (∀ w : Fin 4, ∀ b, i < f.width → 32 * f.word + f.start + i = 32 * w.val + b → b < 32 →
        (rawField words f).testBit i = (words[w]).getLsbD b)
      ∧ (f.width ≤ i → (rawField words f).testBit i = false ∧ (decodeField words f).testBit i = false)
      ∧ (f.encoding ≠ .gray → decodeField words f = rawField words f)
      ∧ (f.encoding = .gray → i < f.width →
          (decodeField words f).testBit i =
            ((List.range (f.width - i)).map fun k => (rawField words f).testBit (i + k)).foldl xor false)

/-- R33, R34: the step by which a complete frame is decoded. The current step, unless its TAG field differs from TAG_EXPECT;
then the lowest other step of the schedule whose descriptor has a TAG field that matches; a MISMATCH where there is none. -/
def Obligations.ResyncSearchFindsLowestStep : Prop :=
  ∀ (cfg : ChanConfig) (descs : Vector Descriptor 16) (words : Vector Word 4) (cur : Fin 4),
    let tag (k : Fin 4) : Option FieldSlot := (descs[(cfg.schedule.steps[k]).desc]).field .tag
    let hits (k : Fin 4) : Prop :=
      ∃ f, tag k = some f ∧ decodeField words f = (descs[(cfg.schedule.steps[k]).desc]).tagExpect.toNat
    let found (k : Fin 4) : Prop := k.val < cfg.schedule.len ∧ k ≠ cur ∧ hits k
    (tag cur = none ∨ hits cur → resolveStep cfg descs words cur = some (cur, false))
      ∧ ((tag cur).isSome = true → ¬ hits cur →
          (∀ k, found k → (∀ j, j < k → ¬ found j) → resolveStep cfg descs words cur = some (k, true))
            ∧ ((∀ k, ¬ found k) → resolveStep cfg descs words cur = none))

/-- R32, R35 to R37, R39 to R42: the commits that hand on no sample. Faulted INCOMPLETE, MISMATCH or FAULT_FIELD, discarded as
EARLY, or delivered as an AUX frame: the counter, the event with its detail after any RESYNC, FAULT_SEEN and the spoiled
interval of a POSITION step, the step pointer, the marks cleared, and nothing else. A delivered frame's STATUS and AUXDATA
fields, zero-extended, become the aux status and the aux word, now valid; an absent field leaves its value. A descriptor's
field of a role is its lowest slot of that role. -/
def Obligations.CommitsWithoutSample : Prop :=
  (∀ (d : Descriptor) (role : Role),
      (∀ f, d.field role = some f ↔ ∃ k : Fin 4, d.fields[k] = some f ∧ f.role = role
          ∧ ∀ (j : Fin 4) (g : FieldSlot), j < k → d.fields[j] = some g → g.role ≠ role)
        ∧ (d.field role = none ↔ ∀ (k : Fin 4) (f : FieldSlot), d.fields[k] = some f → f.role ≠ role))
    ∧ (∀ (rt : Runtime) (d : Descriptor) (words : Vector Word 4),
      let x := rt.takeAux d words
      x = { rt with
          auxStatus := x.auxStatus, statusValid := x.statusValid, auxWord := x.auxWord, auxValid := x.auxValid }
        ∧ (∀ f, d.field .status = some f →
            x.statusValid = true ∧ (f.width ≤ 16 → x.auxStatus.toNat = decodeField words f))
        ∧ (d.field .status = none → x.auxStatus = rt.auxStatus ∧ x.statusValid = rt.statusValid)
        ∧ (∀ f, d.field .auxdata = some f →
            x.auxValid = true ∧ (f.width ≤ 32 → x.auxWord.toNat = decodeField words f))
        ∧ (d.field .auxdata = none → x.auxWord = rt.auxWord ∧ x.auxValid = rt.auxValid))
    ∧ ∀ (c : ChanId) (r : Request) (stamp : Word) (s : State), commits (s.chan c).cfg (s.chan c).rt r = true →
      let cfg := (s.chan c).cfg
      let rt := stageWrite cfg (s.chan c).rt r
      let ctr := (s.chan c).ctr
      let cur := rt.stepPtr
      let cleared : Runtime := { rt with marks := Vector.replicate 4 false }
      let spoiled (k : Fin 4) (x : Runtime) : Runtime := match (cfg.schedule.steps[k]).kind with
        | .position => { x with pend := { x.pend with faultSeen := true }, mark := .spoiled }
        | .aux => x
      let next (k : Fin 4) : Fin 4 := if k.val + 1 = cfg.schedule.len then 0 else k + 1
      let ends (x : Runtime) (k : Counters) (es : List RawEvent) : State :=
        es.foldl State.logEvent { s with chans := s.chans.set c ⟨cfg, x, k⟩ }
      let allMarked : Prop := ∀ j : Fin 4, j.val + 1 < rt.frameLen → rt.marks[j] = true
      (¬ allMarked → s.intakeWrite c r stamp =
          ends { spoiled cur cleared with stepPtr := next cur } ctr.bumpFaults [⟨.frameFault, some c, 1⟩])
        ∧ (allMarked → resolveStep cfg s.descs rt.staging cur = none →
            s.intakeWrite c r stamp = ends (spoiled cur cleared) ctr.bumpFaults [⟨.frameFault, some c, 2⟩])
        ∧ ∀ k re, allMarked → resolveStep cfg s.descs rt.staging cur = some (k, re) →
            let d := s.descs[(cfg.schedule.steps[k]).desc]
            let resync : List RawEvent := if re then [⟨.resync, some c, 0⟩] else []
            let flagged : Runtime := { cleared with pend := { cleared.pend with resynced := cleared.pend.resynced || re } }
            let early : Prop := (cfg.schedule.steps[k]).kind = .position ∧ rt.state = .running ∧ 0 < cfg.guardG
              ∧ ∃ last, rt.lastArrival = some last ∧ (stamp - last).toNat < rt.base * cfg.guardG / 16
            let faulted : Prop := ∃ f, d.field .fault = some f
              ∧ BitVec.ofNat 32 (decodeField rt.staging f) &&& d.faultMask ≠ 0
            (early → s.intakeWrite c r stamp = ends flagged ctr.bumpEarly (resync ++ [⟨.earlyFrame, some c, 0⟩]))
              ∧ (¬ early → faulted → s.intakeWrite c r stamp =
                  ends { spoiled k flagged with stepPtr := next k } ctr.bumpFaults
                    (resync ++ [⟨.frameFault, some c, 3⟩]))
              ∧ (¬ early → ¬ faulted → (cfg.schedule.steps[k]).kind = .aux → s.intakeWrite c r stamp =
                  ends { flagged.takeAux d rt.staging with stepPtr := next k } ctr.bumpAuxFrames resync)

/-- R38, R63, R84, R89 and the rules they order: a commit whose frame is delivered at a POSITION step. The sample carries the
decoded POSITION and TURNS with their widths, the TURNS encoding and the acceptance stamp. FRAMES is counted, the
sample is conditioned and taken as an arrival by the state it finds, the channel is RUNNING, and one SAMPLE record with the
acceptance stamp is generated from the result: queued where the Record Queue has room, dropped and counted otherwise. The
events are RESYNC, then SLEW_BEGIN or SLEW_END, with CH_REACQUIRED and RECORD_DROPPED placed among them in a free order (R57,
R142; log entry 3). Everything else stays. -/
def Obligations.AcceptedSampleTaken : Prop :=
  (∀ (d : Descriptor) (words : Vector Word 4) (stamp : Word),
      let x := sampleOf d words stamp
      x.stamp = stamp
        ∧ (∀ f, d.field .position = some f → x.position = decodeField words f ∧ x.positionWidth = f.width)
        ∧ (∀ f, d.field .turns = some f → x.turns = some (decodeField words f, f.width, f.encoding))
        ∧ (d.field .turns = none → x.turns = none))
    ∧ ∀ (c : ChanId) (r : Request) (stamp : Word) (k : Fin 4) (re : Bool) (s : State),
      (s.chan c).rt.state.intakeMatched = true → commits (s.chan c).cfg (s.chan c).rt r = true →
      let cfg := (s.chan c).cfg
      let rt := stageWrite cfg (s.chan c).rt r
      let d := s.descs[(cfg.schedule.steps[k]).desc]
      (∀ j : Fin 4, j.val + 1 < rt.frameLen → rt.marks[j] = true) →
      resolveStep cfg s.descs rt.staging rt.stepPtr = some (k, re) → (cfg.schedule.steps[k]).kind = .position →
      isEarly cfg rt .position stamp = false → d.faulted rt.staging = false →
      let sample := sampleOf d rt.staging stamp
      let handed : Runtime := { rt.takeAux d rt.staging with
        pend := { rt.pend with resynced := rt.pend.resynced || re }
        stepPtr := if k.val + 1 = cfg.schedule.len then 0 else k + 1
        marks := Vector.replicate 4 false }
      let out := conditionSample cfg rt.state (handed.takePosition sample)
      let arrived := (takeArrival c cfg rt.state out.1 stamp).1
      let ctr := (s.chan c).ctr.bumpFrames.countOutput out.2.1
      let record := buildRecord c ⟨cfg, arrived, ctr⟩ .sample out.2.1 false stamp
      let gone : Runtime := { arrived with nextSeq := arrived.nextSeq + 1, pend := ⟨false, false, false, false⟩ }
      let resync : List RawEvent := if re then [⟨.resync, some c, 0⟩] else []
      let slew : List RawEvent := match out.2.2 with | some kind => [⟨kind, some c, 0⟩] | none => []
      let reacquired : List RawEvent := if rt.state = .lost then [⟨.chReacquired, some c, 0⟩] else []
      gone.state = .running
        ∧ ∃ (order : List RawEvent) (n : Nat), (resync ++ slew).Sublist order
          ∧ (s.records.length < 8 → order.Perm (resync ++ slew ++ reacquired)
              ∧ s.intakeWrite c r stamp = order.foldl State.logEvent { s with
                  chans := s.chans.set c ⟨cfg, gone, ctr⟩, records := s.records ++ [record], choice := n })
          ∧ (8 ≤ s.records.length →
              order.Perm (resync ++ slew ++ reacquired ++ [⟨.recordDropped, some c, arrived.nextSeq⟩])
              ∧ s.intakeWrite c r stamp = order.foldl State.logEvent { s with
                  chans := s.chans.set c ⟨cfg, gone, ctr.bumpDropped⟩, choice := n })

/-! ## Unwrapping and conditioning -/

/-- R44 to R47: the frame position is TURNS × 2^pw + POSITION; a first sample is extended, from bit W − 1 where TURNS is SIGNED;
any other moves EP by the signed W-bit change, which lies from −2^(W−1) to 2^(W−1) − 1; and EP then agrees with the frame
position in its low W bits. Nothing but EP and P_last changes. -/
def Obligations.UnwrapFollowsThePosition : Prop :=
  ∀ (rt : Runtime) (x : Sample), 1 ≤ rt.width → rt.width ≤ 48 → x.framePosition < 2 ^ rt.width →
    let p := x.framePosition
    let rt' := rt.takePosition x
    (x.turns = none → p = x.position)
      ∧ (∀ t tw enc, x.turns = some (t, tw, enc) → p = t * 2 ^ x.positionWidth + x.position)
      ∧ rt' = { rt with ep := rt'.ep, pLast := some p }
      ∧ (rt.pLast = none → rt'.ep.toNat % 2 ^ rt.width = p
          ∧ ((∀ t tw, x.turns ≠ some (t, tw, .signed)) → rt'.ep.toNat = p)
          ∧ (∀ t tw, x.turns = some (t, tw, .signed) →
              rt'.ep.toInt = if 2 ^ (rt.width - 1) ≤ p then (p : Int) - 2 ^ rt.width else p))
      ∧ ∀ q, rt.pLast = some q → q < 2 ^ rt.width →
          ∃ d : Int, -(2 ^ (rt.width - 1)) ≤ d ∧ d < 2 ^ (rt.width - 1) ∧ (2 ^ rt.width : Int) ∣ ((p : Int) - q) - d
            ∧ rt'.ep = rt.ep + BitVec.ofInt 48 d
            ∧ (rt.ep.toNat % 2 ^ rt.width = q → rt'.ep.toNat % 2 ^ rt.width = p)

/-- R50 to R55, R58 to R60, R63. A sample that finds the channel RUNNING has a real output, one that finds it WAITING or LOST the
entry output, without event. A real sample accepted in RUNNING: OFF and PRIME pass EP; otherwise the table of R54, with m
measured from OP_prev in RATE and from OP_prev + V_prev in CURVE, and the HOLDOVER output projected by A_prev too in CURVE. The
entry output sets OP to EP with V, A and the violation count 0 and enters PRIME in CURVE, TRACK otherwise. A synthesized output
takes the value of the table by policy and mode and keeps the conditioner state and the violation count. Every output but the
entry output recomputes V and A; EP, P_last and every other field stay. -/
def Obligations.ConditionerOutputs : Prop :=
  (∀ (cfg : ChanConfig) (rt : Runtime),
      conditionSample cfg .running rt = conditionReal cfg rt
        ∧ ∀ found : LifeCycle, found = .waiting ∨ found = .lost →
            conditionSample cfg found rt = ((conditionEntry cfg rt).1, (conditionEntry cfg rt).2, none))
    ∧ (∀ (cfg : ChanConfig) (rt : Runtime),
      let formed (op : Pos) (st : CondState) (n : Nat) : Runtime :=
        { rt with op := op, vel := op - rt.op, acc := op - rt.op - rt.vel, cond := st, viol := n }
      let from_ : Pos := if cfg.filterMode = .curve then rt.op + rt.vel else rt.op
      let m : Int := (rt.ep - from_).toInt
      let held : Pos := if cfg.filterMode = .curve then rt.op + rt.vel + rt.acc else rt.op + rt.vel
      let slewed : Pos := from_ + (if m < 0 then -(BitVec.ofNat 48 cfg.limit) else BitVec.ofNat 48 cfg.limit)
      (cfg.filterMode = .off → conditionReal cfg rt = (formed rt.ep .track 0, ⟨false, false, false⟩, none))
        ∧ (cfg.filterMode ≠ .off → rt.cond = .prime →
            conditionReal cfg rt = (formed rt.ep .track 0, ⟨false, false, true⟩, none))
        ∧ (cfg.filterMode ≠ .off → rt.cond ≠ .prime → -(cfg.limit : Int) ≤ m → m ≤ cfg.limit →
            conditionReal cfg rt = (formed rt.ep .track 0, ⟨false, false, false⟩,
              if rt.cond = .slew then some .slewEnd else none))
        ∧ (cfg.filterMode ≠ .off → m < -(cfg.limit : Int) ∨ (cfg.limit : Int) < m →
            (rt.cond = .slew →
                conditionReal cfg rt = (formed slewed .slew cfg.persist, ⟨false, true, false⟩, none))
              ∧ (rt.cond = .track ∨ rt.cond = .holdover → rt.viol + 1 < cfg.persist →
                  conditionReal cfg rt = (formed held .holdover (rt.viol + 1), ⟨true, false, false⟩, none))
              ∧ (rt.cond = .track ∨ rt.cond = .holdover → cfg.persist ≤ rt.viol + 1 →
                  conditionReal cfg rt = (formed slewed .slew cfg.persist, ⟨false, true, false⟩, some .slewBegin))))
    ∧ (∀ (cfg : ChanConfig) (rt : Runtime),
      conditionEntry cfg rt =
          ({ rt with op := rt.ep, vel := 0, acc := 0, viol := 0, cond := if cfg.filterMode = .curve then .prime else .track },
            ⟨false, false, decide (cfg.filterMode = .curve)⟩)
        ∧ (∀ op : Pos, op = (match cfg.synthPolicy, cfg.filterMode with
              | .hold, _ => rt.op
              | .project, .off => rt.op + rt.vel
              | .project, .rate => rt.op + rt.vel
              | .project, .curve => rt.op + rt.vel + rt.acc) →
            conditionSynth cfg rt = ({ rt with op := op, vel := op - rt.op, acc := op - rt.op - rt.vel },
              ⟨false, false, decide (rt.cond = .prime)⟩)))

/-! ## Arrivals and deadlines -/

/-- R69 to R71, R73 to R75. The interval of a sample that finds the channel RUNNING is entered only when it is clean; the
history keeps the newest 8, and the base interval is the mean of the newest min(h, D), at least 16; an unclean interval changes
neither. An arrival sets, by the state it finds: the last arrival to the stamp, the miss count to 0, the mark to CLEAN, the
deadline to stamp + interval × K/16 (NOMINAL at an entry, the base just judged in RUNNING), AFTER_SYNTH pending after a miss in
RUNNING, REACQUIRED pending with CH_REACQUIRED at a reacquisition; nothing else changes. -/
def Obligations.ArrivalsAndIntervals : Prop :=
  (∀ (cfg : ChanConfig) (rt : Runtime) (stamp last : Word), rt.lastArrival = some last →
      let x := min (stamp - last).toNat 16777215
      let rt' := rt.judgeInterval cfg stamp
      (rt.miss = 0 → rt.mark = .clean → ∃ dropped kept : List Nat,
          rt.history ++ [x] = dropped ++ kept ∧ kept.length = min 8 (rt.history.length + 1)
            ∧ rt' = { rt with history := kept, base := rt'.base }
            ∧ ∀ older newest : List Nat, kept = older ++ newest → newest.length = min kept.length cfg.avgDepth →
                rt'.base = max 16 (min 16777215 (newest.sum / newest.length)))
        ∧ (rt.miss ≠ 0 ∨ rt.mark = .spoiled → rt' = rt))
    ∧ (∀ (c : ChanId) (cfg : ChanConfig) (rt : Runtime) (stamp : Word),
      let armed (x : Runtime) (interval : Nat) : Runtime := { x with
        state := .running, lastArrival := some stamp, miss := 0, mark := .clean
        deadline := some (stamp + BitVec.ofNat 32 (interval * cfg.deadlineK / 16)) }
      takeArrival c cfg .waiting rt stamp = (armed rt cfg.nominal, [])
        ∧ (rt.state = .running →
            let judged := rt.judgeInterval cfg stamp
            takeArrival c cfg .running rt stamp =
              (armed { judged with pend := { judged.pend with
                afterSynth := judged.pend.afterSynth || decide (0 < rt.miss) } } judged.base, []))
        ∧ takeArrival c cfg .lost rt stamp =
            (armed { rt with pend := { rt.pend with reacquired := true } } cfg.nominal, [⟨.chReacquired, some c, 0⟩]))

/-- R66, R77, R78, R79: a deadline that is reached. WAITING below MISS_LIMIT: the deadline moves on by NOMINAL and nothing
else. RUNNING below MISS_LIMIT: a synthesized output, SYNTH counted, the deadline moved on by the base interval, a SYNTH
record with the deadline as its time. Otherwise the channel is LOST: no deadline, the history empty, the base NOMINAL,
CH_LOST, and a LOST record, NO_POSITION from WAITING. A record that finds the queue full is dropped. A deadline not reached
changes nothing. That a happening whose condition does not hold changes nothing is the model's choice (log entry 1). -/
def Obligations.DeadlineOutcomes : Prop :=
  ∀ (c : ChanId) (d : Word) (s : State), s.rstAsserted = false → (s.chan c).rt.deadline = some d →
    let cfg := (s.chan c).cfg
    let rt := { (s.chan c).rt with miss := (s.chan c).rt.miss + 1 }
    let generated (x : Runtime) (ctr : Counters) (kind : RecordKind) (f : CondFlags) (np : Bool) (es : List RawEvent)
        (t : State) : Prop :=
      let record := buildRecord c ⟨cfg, x, ctr⟩ kind f np d
      let gone : Runtime := { x with nextSeq := x.nextSeq + 1, pend := ⟨false, false, false, false⟩ }
      (s.records.length < 8 → t =
          es.foldl State.logEvent { s with chans := s.chans.set c ⟨cfg, gone, ctr⟩, records := s.records ++ [record] })
        ∧ (8 ≤ s.records.length →
            ∃ (order : List RawEvent) (k : Nat), order.Perm (es ++ [⟨.recordDropped, some c, x.nextSeq⟩]) ∧ t =
              order.foldl State.logEvent
                { s with chans := s.chans.set c ⟨cfg, gone, ctr.bumpDropped⟩, choice := k })
    ((s.tick - d).toNat < 2 ^ 31 →
        ((s.chan c).rt.state = .waiting → rt.miss < cfg.missLimit → exec (.deadlineReached c) s = .next { s with
            chans := s.chans.set c
              ⟨cfg, { rt with deadline := some (d + BitVec.ofNat 32 cfg.nominal) }, (s.chan c).ctr⟩ })
          ∧ ((s.chan c).rt.state = .running → rt.miss < cfg.missLimit →
              let out := conditionSynth cfg rt
              ∃ t, exec (.deadlineReached c) s = .next t ∧
                generated { out.1 with deadline := some (d + BitVec.ofNat 32 rt.base) } (s.chan c).ctr.bumpSynth
                  .synth out.2 false [] t)
          ∧ ((s.chan c).rt.state = .waiting ∨ (s.chan c).rt.state = .running → cfg.missLimit ≤ rt.miss →
              ∃ t, exec (.deadlineReached c) s = .next t ∧
                generated { rt with state := .lost, deadline := none, history := [], base := cfg.nominal } (s.chan c).ctr
                  .lost ⟨false, false, false⟩ (decide ((s.chan c).rt.state = .waiting)) [⟨.chLost, some c, 0⟩] t))
      ∧ (2 ^ 31 ≤ (s.tick - d).toNat → exec (.deadlineReached c) s = .next s)

/-! ## Records -/

/-- R85, R89, R90, R173: the eight words of a record, by bits: sequence number, kind, the ten flags, channel; OP, aux status, time
stamp, EP, the copy of the sequence number, V saturated to signed 32 bits, aux word; and the slot, the number modulo
OUTPUT_DEPTH. -/
def Obligations.RecordWordsLaidOut : Prop :=
  ∀ (c : ChanId) (ch : Channel) (kind : RecordKind) (f : CondFlags) (np : Bool) (time : Word),
    let r := buildRecord c ch kind f np time
    let w (k : Fin 8) : Word := r.words[k]
    let rt := ch.rt
    r.chan = c ∧ r.seq = rt.nextSeq ∧ r.slot = rt.nextSeq.toNat % ch.cfg.outputDepth
      ∧ (w 0).extractLsb' 0 16 = rt.nextSeq
      ∧ ((w 0).extractLsb' 16 2).toNat = (match kind with | .sample => 0 | .synth => 1 | .lost => 2)
      ∧ (w 0).getLsbD 18 = f.limited ∧ (w 0).getLsbD 19 = f.slewing ∧ (w 0).getLsbD 20 = f.priming
      ∧ (w 0).getLsbD 21 = rt.pend.afterSynth ∧ (w 0).getLsbD 22 = rt.pend.faultSeen
      ∧ (w 0).getLsbD 23 = rt.pend.resynced ∧ (w 0).getLsbD 24 = rt.pend.reacquired
      ∧ (w 0).getLsbD 25 = np ∧ (w 0).getLsbD 26 = rt.statusValid ∧ (w 0).getLsbD 27 = rt.auxValid
      ∧ ((w 0).extractLsb' 28 4).toNat = c.val
      ∧ w 1 = rt.op.extractLsb' 0 32 ∧ (w 2).extractLsb' 0 16 = rt.op.extractLsb' 32 16
      ∧ (w 2).extractLsb' 16 16 = rt.auxStatus ∧ w 3 = time
      ∧ w 4 = rt.ep.extractLsb' 0 32 ∧ (w 5).extractLsb' 0 16 = rt.ep.extractLsb' 32 16
      ∧ (w 5).extractLsb' 16 16 = rt.nextSeq
      ∧ (w 6).toInt = (if 2147483647 < rt.vel.toInt then 2147483647
          else if rt.vel.toInt < -2147483648 then -2147483648 else rt.vel.toInt)
      ∧ w 7 = rt.auxWord

/-- R97, R98, R101, R16: the end of a half. While the other half is awaiting, the outcome is noted and the record stays
outstanding. Otherwise the record settles: it leaves the list, FAILED is counted and RECORD_FAILED raised with its reason
unless both halves are OK, and the reads held for its slot are released when no other queued or outstanding record names
it. The drain of the channel is then tested on what that leaves; the events of the two are entered in either order (log
entry 3). The drain condition has R16's three parts: no queued record of the channel, no entry in use that serves a record
of it unless it is an orphan, no read held for it. An outstanding record is known by its channel and sequence number (log
entry 14). -/
def Obligations.HalfEndsAndSettles : Prop :=
  (∀ (s : State) (before after' : List OutRecord) (o : OutRecord) (h : RecHalf) (x : HalfOutcome),
      s.outstanding = before ++ o :: after' → (∀ p ∈ before, ¬ (p.chan = o.chan ∧ p.seq = o.seq)) → x ≠ .awaiting →
      let other := match h with | .first => o.second | .second => o.first
      let noted : OutRecord := match h with | .first => { o with first := x } | .second => { o with second := x }
      let c := o.chan
      let still : Bool := s.records.any (fun r => r.chan == c && r.slot == o.slot)
        || (before ++ after').any (fun p => p.chan == c && p.slot == o.slot)
      let released : List HoldEntry := if still then s.hold else
        s.hold.map fun g => if g.chan = c ∧ g.slot = o.slot then { g with cond := .released } else g
      let gone : State := { s with outstanding := before ++ after', hold := released }
      let reason : Half := if x = .memoryError ∨ other = .memoryError then 1 else 2
      (other = .awaiting → s.endHalf c o.seq h x = ({ s with outstanding := before ++ noted :: after' }, []))
        ∧ (other = .ok → x = .ok → s.endHalf c o.seq h x = (gone, []))
        ∧ (other ≠ .awaiting → ¬ (other = .ok ∧ x = .ok) → s.endHalf c o.seq h x =
            ({ gone with chans := s.chans.set c { s.chan c with ctr := (s.chan c).ctr.bumpFailed } },
              [⟨.recordFailed, some c, reason⟩])))
    ∧ (∀ (s : State) (c : ChanId) (q : Half) (h : RecHalf) (x : HalfOutcome),
      let t := s.endHalf c q h x
      let drains : Prop := (t.1.chan c).rt.state = .draining ∧ t.1.drained c = true
      (¬ drains → s.halfEnded c q h x = t.2.foldl State.logEvent t.1)
        ∧ (drains → ∃ (order : List RawEvent) (k : Nat), order.Perm (t.2 ++ [⟨.chDrained, some c, 0⟩]) ∧
            s.halfEnded c q h x = order.foldl State.logEvent { t.1 with
              chans := t.1.chans.set c { t.1.chan c with rt := { (t.1.chan c).rt with state := .disabled } }
              choice := k }))
    ∧ ∀ (s : State) (c : ChanId), s.drained c = true ↔
        (∀ r ∈ s.records, r.chan ≠ c)
          ∧ (∀ e t q h, (s.entry e).tx = some t → t.origin = .record c q h → t.orphan = true)
          ∧ ∀ h ∈ s.hold, h.chan ≠ c

/-- R101, R120: a read that is RELEASED, with no RELEASED read ahead of it, moves to the end of the Forward Queue when that
has a free entry; where its channel is DRAINING and nothing of it is left, the channel becomes DISABLED with CH_DRAINED
(R16). With no free entry, or no RELEASED read, nothing moves. That a happening whose condition does not hold changes
nothing is the model's choice (log entry 1). -/
def Obligations.ReleasedReadMoves : Prop :=
  ∀ s : State, s.rstAsserted = false →
    (∀ (before after' : List HoldEntry) (h : HoldEntry), s.hold = before ++ h :: after' → h.cond = .released →
        (∀ g ∈ before, g.cond = .held) → s.forward.length < 8 →
        let moved : State := { s with hold := before ++ after', forward := s.forward ++ [h.req] }
        (¬ ((s.chan h.chan).rt.state = .draining ∧ moved.drained h.chan = true) →
            exec .releasedReadMove s = .next moved)
          ∧ ((s.chan h.chan).rt.state = .draining → moved.drained h.chan = true →
              exec .releasedReadMove s = .next (State.logEvent { moved with
                chans := s.chans.set h.chan
                  { s.chan h.chan with rt := { (s.chan h.chan).rt with state := .disabled } } }
                ⟨.chDrained, some h.chan, 0⟩)))
      ∧ ((∀ g ∈ s.hold, g.cond = .held) ∨ 8 ≤ s.forward.length → exec .releasedReadMove s = .next s)

/-! ## The Downstream Port -/

/-- R125: the downstream tag is the entry's index plus 24 × its generation; it is below 192 and is read back as that entry at
that generation; a tag below 192 names entry t mod 24 at generation t div 24; a tag of 192 or above names no entry. Entry 5 at
generation 0 has tag 5, and at generation 3 tag 77. The request offered carries its entry's tag. -/
def Obligations.DownstreamTagsNameEntries : Prop :=
  (∀ (e : EntryId) (g : BitVec 3),
      (downTag e g).toNat = e.val + 24 * g.toNat ∧ (downTag e g).toNat < 192 ∧ tagTarget (downTag e g) = some (e, g))
    ∧ (∀ t : Byte, 192 ≤ t.toNat → tagTarget t = none)
    ∧ (∀ t : Byte, t.toNat < 192 → ∃ e g, tagTarget t = some (e, g) ∧ e.val = t.toNat % 24 ∧ g.toNat = t.toNat / 24)
    ∧ downTag 5 0 = 5 ∧ downTag 5 3 = 77
    ∧ ∀ (s : State) (q : Request), s.dqOffer = some q →
        ∃ e rest, s.sendOrder = e :: rest ∧ q.tag = downTag e (s.entry e).gen

/-- R94, R127, R128, R129: a record is eligible exactly when no entry in use (orphan or not), no waiting forward request and no
RELEASED read overlaps its slot. Whether a grant is taken and to whom, by the rows of the table: the claims, the free entries,
record priority and the last winner. -/
def Obligations.ArbiterFollowsItsTable : Prop :=
  (∀ (s : State) (r : Record),
      let slot := (s.chan r.chan).cfg.outputBase.toNat + 32 * r.slot
      let apart (addr : Word) (len : BitVec 3) : Prop :=
        addr.toNat + 4 * len.toNat ≤ slot ∨ slot + 32 ≤ addr.toNat ∨ len = 0
      s.eligible r = true ↔ (∀ e t, (s.entry e).tx = some t → apart t.addr t.len)
        ∧ (∀ q ∈ s.forward, apart q.addr q.len)
        ∧ ∀ h ∈ s.hold, h.cond = .released → apart h.req.addr h.req.len)
    ∧ ∀ s : State,
      let free := (List.finRange 24).countP fun e => (s.entry e).tx.isNone
      let fwd : Prop := s.forward ≠ []
      let rec_ : Prop := ∃ r ∈ s.records, s.eligible r = true
      let priority : Prop := 6 ≤ s.records.length ∧ rec_
      (free = 0 → s.grantee = none)
        ∧ (¬ fwd → ¬ rec_ → s.grantee = none)
        ∧ (fwd → ¬ rec_ → 1 ≤ free → s.grantee = some .forward)
        ∧ (¬ fwd → rec_ → s.grantee = if 2 ≤ free then some .record else none)
        ∧ (fwd → rec_ → ¬ priority → free = 1 → s.grantee = some .forward)
        ∧ (fwd → rec_ → ¬ priority → 2 ≤ free →
            s.grantee = some (if s.lastWinner = .forward then .record else .forward))
        ∧ (fwd → priority → s.grantee = if 2 ≤ free then some .record else none)

/-- R127, R126, R130, R94 to R96: what a grant does. Forward claim: the lowest free entry takes the head of the Forward
Queue with the request's own initiator and tag. Record claim: the oldest eligible record leaves the queue and is
outstanding with both halves awaiting, and the two lowest free entries take its halves as full four-word writes of words
0-3 at the slot's start and words 4-7 sixteen bytes above; no entry in use, waiting forward request or RELEASED read
overlaps its slot. Entries keep their generations and join the send order; PART_INITIATOR is latched when the order was
empty (log entry 6). With no claimant that can be served nothing happens. That a happening whose condition does not hold
changes nothing is the model's choice (log entry 1). -/
def Obligations.GrantOutcomes : Prop :=
  (∀ s : State, s.rstAsserted = false →
      (∀ (r : Request) (rest : List Request) (e : EntryId), s.grantee = some .forward → s.forward = r :: rest →
          (s.entry e).tx = none → (∀ f : EntryId, f < e → (s.entry f).tx ≠ none) →
          exec .grant s = .next { s with
            forward := rest
            table := s.table.set e ⟨(s.entry e).gen,
              some ⟨.granted r.be r.data, false, .forward r.init r.tag, r.kind, r.addr, r.len⟩⟩
            sendOrder := s.sendOrder ++ [e]
            offeredInit := if s.sendOrder = [] then some s.partInitiator else s.offeredInit
            lastWinner := .forward })
        ∧ (s.grantee = none → exec .grant s = .next s))
    ∧ (∀ (s : State) (before after' : List Record) (r : Record) (a b : EntryId), s.rstAsserted = false →
      s.grantee = some .record → s.records = before ++ r :: after' → s.eligible r = true →
      (∀ q ∈ before, s.eligible q = false) → a < b → (s.entry a).tx = none → (s.entry b).tx = none →
      (∀ f : EntryId, f < b → f ≠ a → (s.entry f).tx ≠ none) →
      let slot := (s.chan r.chan).cfg.outputBase.toNat + 32 * r.slot
      let lanes (k : Fin 2) : BitVec 128 :=
        r.words[4 * k.val + 3] ++ r.words[4 * k.val + 2] ++ r.words[4 * k.val + 1] ++ r.words[4 * k.val]
      let half (h : RecHalf) (k : Fin 2) : Transaction :=
        ⟨.granted (BitVec.allOnes 16) (lanes k), false, .record r.chan r.seq h, .write,
          BitVec.ofNat 32 (slot + 16 * k.val), 4⟩
      let apart (addr : Word) (len : BitVec 3) : Prop :=
        addr.toNat + 4 * len.toNat ≤ slot ∨ slot + 32 ≤ addr.toNat ∨ len = 0
      exec .grant s = .next { s with
          records := before ++ after'
          outstanding := s.outstanding ++ [⟨r.chan, r.seq, r.slot, .awaiting, .awaiting⟩]
          table := (s.table.set a ⟨(s.entry a).gen, some (half .first 0)⟩).set b ⟨(s.entry b).gen, some (half .second 1)⟩
          sendOrder := s.sendOrder ++ [a, b]
          offeredInit := if s.sendOrder = [] then some s.partInitiator else s.offeredInit
          lastWinner := .record }
        ∧ (∀ e t, (s.entry e).tx = some t → apart t.addr t.len)
        ∧ (∀ q ∈ s.forward, apart q.addr q.len)
        ∧ ∀ h ∈ s.hold, h.cond = .released → apart h.req.addr h.req.len)

/-- R130, R124, R126, R171: the memory controller accepts the oldest GRANTED request as it is offered. Its entry becomes ISSUED
with the tick count and the RESP_LIMIT in force, its enables and data are no longer kept, it leaves the send order, and the
next is offered with the PART_INITIATOR now in force. The signals on DQ are the request's, with 0 for READ and 1 for WRITE,
and the lanes of words at or above the length and all lanes of a READ 0; an acceptance completes that transfer. The moment at
which PART_INITIATOR is read is inferred (log entry 6), and the accepted request stands in the model's trace (log entry 4). -/
def Obligations.IssueAcceptsTheOffer : Prop :=
  (∀ (s : State) (e : EntryId) (rest : List EntryId) (t : Transaction) (be : Half) (data : BitVec 128) (init : BitVec 4),
    s.rstAsserted = false → s.sendOrder = e :: rest → (s.entry e).tx = some t → t.phase = .granted be data →
    s.offeredInit = some init →
    exec .issue s = .next { s with
      table := s.table.set e ⟨(s.entry e).gen, some { t with phase := .issued s.tick s.respLimit }⟩
      sendOrder := rest
      offeredInit := if rest = [] then none else some s.partInitiator
      dqOut := s.dqOut ++ [⟨t.kind, t.addr, t.len, be, init, downTag e (s.entry e).gen, data⟩] })
    ∧ (∀ (s : State) (q : Request), s.dqOffer = some q → ∃ p : RequestTransfer, s.dqPins = some p
        ∧ p.kind = (match q.kind with | .read => 0 | .write => 1)
        ∧ p.addr = q.addr ∧ p.len = q.len ∧ p.init = q.init ∧ p.tag = q.tag
        ∧ (∀ k, p.be.getLsbD k = (decide (q.kind = .write) && decide (k < 4 * q.len.toNat) && q.be.getLsbD k))
        ∧ ∀ k, p.data.getLsbD k = (decide (q.kind = .write) && decide (k < 32 * q.len.toNat) && q.data.getLsbD k))
    ∧ ∀ s t : State, s.rstAsserted = false → exec .issue s = .next t →
        t.dqTransfers = s.dqTransfers ++ s.dqPins.toList

/-- R132 to R135, R137, R138, R122, R172: a response. It matches an ISSUED entry at the generation its tag names. For a live
FORWARD entry the request is answered with its own initiator and tag, OK with the read words in order or MEMORY_ERROR with
zeros; for a live RECORD entry the half ends; an orphan is freed and the response is stray; a response that matches nothing
is stray: STRAY is counted and STRAY_RESPONSE raised with the tag. A freed entry's generation advances by 1. The initiator
is not compared. On US an answer is a status of 0, 1 or 2 and 256 data bits: data word k at lane k, every other lane 0. The
answers stand in the model's trace of responses (log entry 4). -/
def Obligations.ResponseOutcomes : Prop :=
  (∀ (init : BitVec 4) (tag : Byte) (status : BitVec 2) (data : BitVec 128) (s : State), s.rstAsserted = false →
    let matched (e : EntryId) (t : Transaction) : Prop := tag = downTag e (s.entry e).gen ∧ (s.entry e).tx = some t
      ∧ ∃ stamp limit, t.phase = .issued stamp limit
    let freed (e : EntryId) : Vector Entry 24 := s.table.set e ⟨(s.entry e).gen + 1, none⟩
    let stray (t : State) : State :=
      State.logEvent { t with stray := BitVec.ofNat 16 (min 65535 (s.stray.toNat + 1)) }
        ⟨.strayResponse, none, tag.setWidth 16⟩
    (∀ e t i g, matched e t → t.orphan = false → t.origin = .forward i g →
        exec (.response init tag status data) s = .next { s with
          table := freed e
          usOut := s.usOut ++ [⟨i, g, if status = 0 then .ok else .memoryError,
            match t.kind with
            | .read => (List.range t.len.toNat).map fun k =>
                if status = 0 then data.extractLsb' (32 * k) 32 else 0
            | .write => []⟩] })
      ∧ (∀ e t c q h, matched e t → t.orphan = false → t.origin = .record c q h →
          exec (.response init tag status data) s = .next
            (State.halfEnded { s with table := freed e } c q h (if status = 0 then .ok else .memoryError)))
      ∧ (∀ e t, matched e t → t.orphan = true →
          exec (.response init tag status data) s = .next (stray { s with table := freed e }))
      ∧ ((∀ e t, ¬ matched e t) → exec (.response init tag status data) s = .next (stray s)))
    ∧ ∀ (s : State) (r : UpResponse), (s.respond r).usTransfers = s.usTransfers ++ [r.transfer]
        ∧ r.transfer.init = r.init ∧ r.transfer.tag = r.tag
        ∧ r.transfer.status = (match r.status with | .ok => 0 | .memoryError => 1 | .refused => 2)
        ∧ ∀ k : Fin 8, r.transfer.data.extractLsb' (32 * k.val) 32 = r.data.getD k.val 0

/-- R136: an ISSUED entry that is no orphan and has reached its issue stamp plus its limit is orphaned and keeps all its
fields; its request is answered MEMORY_ERROR with zero words for a read, or its half ends TIMEOUT. Before that time, and
for an orphan, a GRANTED or a free entry, nothing happens. That a happening whose condition does not hold changes nothing
is the model's choice (log entry 1); the answers stand in the model's trace of responses (log entry 4). -/
def Obligations.TimeoutOrphansTheEntry : Prop :=
  ∀ (e : EntryId) (s : State), s.rstAsserted = false →
    (∀ t stamp limit, (s.entry e).tx = some t → t.phase = .issued stamp limit → t.orphan = false →
        ((s.tick - (stamp + BitVec.ofNat 32 limit)).toNat < 2 ^ 31 →
            let orphaned : Vector Entry 24 := s.table.set e ⟨(s.entry e).gen, some { t with orphan := true }⟩
            (∀ i g, t.origin = .forward i g → exec (.timeout e) s = .next { s with
                table := orphaned
                usOut := s.usOut ++ [⟨i, g, .memoryError,
                  match t.kind with | .read => List.replicate t.len.toNat 0 | .write => []⟩] })
              ∧ (∀ c q h, t.origin = .record c q h →
                  exec (.timeout e) s = .next (State.halfEnded { s with table := orphaned } c q h .timeout)))
          ∧ (2 ^ 31 ≤ (s.tick - (stamp + BitVec.ofNat 32 limit)).toNat → exec (.timeout e) s = .next s))
      ∧ ((∀ t stamp limit, (s.entry e).tx = some t → t.phase = .issued stamp limit → t.orphan = true) →
          exec (.timeout e) s = .next s)

/-! ## Rules of the whole part -/

/-- R2, R24: whatever is taken but a pin reset, a channel that is not DISABLED keeps its configuration, and every descriptor
its schedule names keeps its items. -/
def Obligations.LockedConfigurationStands : Prop :=
  ∀ (i : Instr) (s t : State) (c : ChanId), exec i s = .next t → i ≠ .pinReset → i ≠ .pinResetRelease →
    (s.chan c).rt.state ≠ .disabled →
    (t.chan c).cfg = (s.chan c).cfg
      ∧ ∀ k : Fin 4, k.val < (s.chan c).cfg.schedule.len →
          t.descs[((s.chan c).cfg.schedule.steps[k]).desc] = s.descs[((s.chan c).cfg.schedule.steps[k]).desc]

/-- R150: a channel's counter never decreases except where all nine are cleared, and that only by ENABLE_CHANNEL or
CLEAR_COUNTERS of the channel (or the byte that takes one, log entry 12), the completion of a soft reset or a pin reset (R151);
a counter at 65,535 stays there until then. -/
def Obligations.CountersNeverDecrease : Prop :=
  ∀ (i : Instr) (s t : State) (c : ChanId), exec i s = .next t →
    (∀ f : Counters → Half, f ∈ [Counters.frames, Counters.auxFrames, Counters.faults, Counters.early, Counters.synth,
        Counters.limited, Counters.dropped, Counters.failed, Counters.refused] →
        (f (s.chan c).ctr).toNat ≤ (f (t.chan c).ctr).toNat)
      ∨ ((t.chan c).ctr = ⟨0, 0, 0, 0, 0, 0, 0, 0, 0⟩
          ∧ (i = .enableChannel (BitVec.ofNat 8 c.val) ∨ i = .clearCounters (BitVec.ofNat 8 c.val)
              ∨ (i = .spiByte (BitVec.ofNat 8 c.val) ∧ (s.mgmt.cmd = 0x10 ∨ s.mgmt.cmd = 0x14))
              ∨ i = .softResetCompletion ∨ i = .pinReset ∨ i = .pinResetRelease))

/-- R135, R127: but for a pin reset, an entry's generation changes exactly when the entry is freed, and then by 1 modulo 8; an
entry that becomes in use keeps its generation. -/
def Obligations.GenerationsMarkFreeing : Prop :=
  ∀ (i : Instr) (s t : State) (e : EntryId), exec i s = .next t → i ≠ .pinReset → i ≠ .pinResetRelease →
    ((t.entry e).gen = (s.entry e).gen ∧ ((s.entry e).tx.isSome = true → (t.entry e).tx.isSome = true))
      ∨ ((s.entry e).tx.isSome = true ∧ (t.entry e).tx = none ∧ (t.entry e).gen = (s.entry e).gen + 1)

/-- R121: for each initiator and tag, and but for a pin reset, every command keeps the sum of the requests of that initiator
and tag held (Intake Queue, Hold List, Forward Queue, live Tracking Table entries) and the upstream responses of
that initiator and tag given, and a request taken adds one to its own. So each request taken is answered exactly once, when
it leaves the last of its places. The answers stand in the model's trace of responses (log entry 4). -/
def Obligations.EveryRequestAnsweredOnce : Prop :=
  ∀ (i : Instr) (s t : State) (init : BitVec 4) (tag : Byte), exec i s = .next t → i ≠ .pinReset → i ≠ .pinResetRelease →
    t.unanswered init tag + t.answersGiven init tag = s.unanswered init tag + s.answersGiven init tag +
      (match i with
        | .takeRequest _ _ _ init' tag' _ _ => if s.uqAccept = true ∧ init' = init ∧ tag' = tag then 1 else 0
        | _ => 0)

/-! ## Invariants kept by every step -/

/-- R105, R117, R119, R91, R141, R70: every step keeps the capacities of the collections. -/
def Obligations.StepKeepsCapacities : Prop :=
  ∀ s t : State, s.withinCapacity → step s = .next t → t.withinCapacity

/-- R1, R22, R131, R20: every step keeps every item in its range and the windows of the channels out of DISABLED apart. -/
def Obligations.StepKeepsItemsAndWindows : Prop :=
  (∀ s t : State, s.configInRange → step s = .next t → t.configInRange)
    ∧ ∀ s t : State, s.windowsApart → step s = .next t → t.windowsApart

/-- R80, 4.6, R54, R52: every step keeps the timing fields in agreement with the life-cycle state, and in RATE mode the change
of OP within LIMIT. -/
def Obligations.StepKeepsTimingAndRate : Prop :=
  (∀ s t : State, s.timingAgrees → step s = .next t → t.timingAgrees)
    ∧ ∀ s t : State, s.rateBounded → step s = .next t → t.rateBounded

/-- R47, R4, R41: every step keeps the frame length and width as the schedule gives them, the step pointer in the schedule, and
EP in agreement with P_last in its low W bits. -/
def Obligations.StepKeepsPositions : Prop :=
  ∀ s t : State, s.positionsFollow → step s = .next t → t.positionsFollow

/-- R16: every step keeps a DISABLED channel without a queued record, a held read or a live record write; and while the part is
RESETTING every channel stays DRAINING or DISABLED (R166). -/
def Obligations.StepKeepsDisabledQuiet : Prop :=
  (∀ s t : State, s.disabledQuiet → step s = .next t → t.disabledQuiet)
    ∧ ∀ s t : State, s.resettingQuiet → step s = .next t → t.resettingQuiet

/-- R124, R130, R101, R119: every step keeps the send order as the list of GRANTED entries, and every HELD read waiting for a
slot that is reserved. -/
def Obligations.StepKeepsSendOrderAndHolds : Prop :=
  (∀ s t : State, s.sendOrderAgrees → step s = .next t → t.sendOrderAgrees)
    ∧ ∀ s t : State, s.heldReserved → step s = .next t → t.heldReserved

/-- R94: every step keeps the record writes in the Tracking Table apart, so that at most one record write for a slot is
outstanding at any time; orphans count. -/
def Obligations.StepKeepsRecordWritesApart : Prop :=
  ∀ s t : State, s.configInRange → s.disabledQuiet → s.recordWritesApart → step s = .next t → t.recordWritesApart

/-- The state after reset meets every invariant stated above. -/
def Obligations.ResetMeetsTheInvariants : Prop :=
  State.reset.withinCapacity ∧ State.reset.configInRange ∧ State.reset.windowsApart ∧ State.reset.timingAgrees
    ∧ State.reset.rateBounded ∧ State.reset.positionsFollow ∧ State.reset.disabledQuiet ∧ State.reset.resettingQuiet
    ∧ State.reset.sendOrderAgrees ∧ State.reset.heldReserved ∧ State.reset.recordWritesApart
end

