-- ==== Sys2Proof/Laws/State.lean ====
section
/-! SUPPORT. One lemma per field per update of State: what an update leaves as it was, and what it writes. -/

namespace Sys2Proof.Machine

variable (s : State)

/-! ## setChan -/

@[simp] theorem State.setChan_pending (c : ChanId) (ch : Channel) : (s.setChan c ch).pending = s.pending := rfl
@[simp] theorem State.setChan_rstAsserted (c : ChanId) (ch : Channel) : (s.setChan c ch).rstAsserted = s.rstAsserted := rfl
@[simp] theorem State.setChan_csLow (c : ChanId) (ch : Channel) : (s.setChan c ch).csLow = s.csLow := rfl
@[simp] theorem State.setChan_tick (c : ChanId) (ch : Channel) : (s.setChan c ch).tick = s.tick := rfl
@[simp] theorem State.setChan_tickDiv (c : ChanId) (ch : Channel) : (s.setChan c ch).tickDiv = s.tickDiv := rfl
@[simp] theorem State.setChan_tickLen (c : ChanId) (ch : Channel) : (s.setChan c ch).tickLen = s.tickLen := rfl
@[simp] theorem State.setChan_descs (c : ChanId) (ch : Channel) : (s.setChan c ch).descs = s.descs := rfl
@[simp] theorem State.setChan_intake (c : ChanId) (ch : Channel) : (s.setChan c ch).intake = s.intake := rfl
@[simp] theorem State.setChan_forward (c : ChanId) (ch : Channel) : (s.setChan c ch).forward = s.forward := rfl
@[simp] theorem State.setChan_hold (c : ChanId) (ch : Channel) : (s.setChan c ch).hold = s.hold := rfl
@[simp] theorem State.setChan_records (c : ChanId) (ch : Channel) : (s.setChan c ch).records = s.records := rfl
@[simp] theorem State.setChan_outstanding (c : ChanId) (ch : Channel) : (s.setChan c ch).outstanding = s.outstanding := rfl
@[simp] theorem State.setChan_table (c : ChanId) (ch : Channel) : (s.setChan c ch).table = s.table := rfl
@[simp] theorem State.setChan_sendOrder (c : ChanId) (ch : Channel) : (s.setChan c ch).sendOrder = s.sendOrder := rfl
@[simp] theorem State.setChan_offeredInit (c : ChanId) (ch : Channel) : (s.setChan c ch).offeredInit = s.offeredInit := rfl
@[simp] theorem State.setChan_lastWinner (c : ChanId) (ch : Channel) : (s.setChan c ch).lastWinner = s.lastWinner := rfl
@[simp] theorem State.setChan_partInitiator (c : ChanId) (ch : Channel) : (s.setChan c ch).partInitiator = s.partInitiator := rfl
@[simp] theorem State.setChan_respLimit (c : ChanId) (ch : Channel) : (s.setChan c ch).respLimit = s.respLimit := rfl
@[simp] theorem State.setChan_eventMask (c : ChanId) (ch : Channel) : (s.setChan c ch).eventMask = s.eventMask := rfl
@[simp] theorem State.setChan_events (c : ChanId) (ch : Channel) : (s.setChan c ch).events = s.events := rfl
@[simp] theorem State.setChan_overflow (c : ChanId) (ch : Channel) : (s.setChan c ch).overflow = s.overflow := rfl
@[simp] theorem State.setChan_droppedEvents (c : ChanId) (ch : Channel) : (s.setChan c ch).droppedEvents = s.droppedEvents := rfl
@[simp] theorem State.setChan_stray (c : ChanId) (ch : Channel) : (s.setChan c ch).stray = s.stray := rfl
@[simp] theorem State.setChan_refusedRequests (c : ChanId) (ch : Channel) : (s.setChan c ch).refusedRequests = s.refusedRequests := rfl
@[simp] theorem State.setChan_mgmt (c : ChanId) (ch : Channel) : (s.setChan c ch).mgmt = s.mgmt := rfl
@[simp] theorem State.setChan_resetting (c : ChanId) (ch : Channel) : (s.setChan c ch).resetting = s.resetting := rfl
@[simp] theorem State.setChan_usOut (c : ChanId) (ch : Channel) : (s.setChan c ch).usOut = s.usOut := rfl
@[simp] theorem State.setChan_dqOut (c : ChanId) (ch : Channel) : (s.setChan c ch).dqOut = s.dqOut := rfl
@[simp] theorem State.setChan_misoOut (c : ChanId) (ch : Channel) : (s.setChan c ch).misoOut = s.misoOut := rfl
@[simp] theorem State.setChan_choice (c : ChanId) (ch : Channel) : (s.setChan c ch).choice = s.choice := rfl

/-! ## setEntry -/

@[simp] theorem State.setEntry_pending (e : EntryId) (x : Entry) : (s.setEntry e x).pending = s.pending := rfl
@[simp] theorem State.setEntry_rstAsserted (e : EntryId) (x : Entry) : (s.setEntry e x).rstAsserted = s.rstAsserted := rfl
@[simp] theorem State.setEntry_csLow (e : EntryId) (x : Entry) : (s.setEntry e x).csLow = s.csLow := rfl
@[simp] theorem State.setEntry_tick (e : EntryId) (x : Entry) : (s.setEntry e x).tick = s.tick := rfl
@[simp] theorem State.setEntry_tickDiv (e : EntryId) (x : Entry) : (s.setEntry e x).tickDiv = s.tickDiv := rfl
@[simp] theorem State.setEntry_tickLen (e : EntryId) (x : Entry) : (s.setEntry e x).tickLen = s.tickLen := rfl
@[simp] theorem State.setEntry_chans (e : EntryId) (x : Entry) : (s.setEntry e x).chans = s.chans := rfl
@[simp] theorem State.setEntry_descs (e : EntryId) (x : Entry) : (s.setEntry e x).descs = s.descs := rfl
@[simp] theorem State.setEntry_intake (e : EntryId) (x : Entry) : (s.setEntry e x).intake = s.intake := rfl
@[simp] theorem State.setEntry_forward (e : EntryId) (x : Entry) : (s.setEntry e x).forward = s.forward := rfl
@[simp] theorem State.setEntry_hold (e : EntryId) (x : Entry) : (s.setEntry e x).hold = s.hold := rfl
@[simp] theorem State.setEntry_records (e : EntryId) (x : Entry) : (s.setEntry e x).records = s.records := rfl
@[simp] theorem State.setEntry_outstanding (e : EntryId) (x : Entry) : (s.setEntry e x).outstanding = s.outstanding := rfl
@[simp] theorem State.setEntry_sendOrder (e : EntryId) (x : Entry) : (s.setEntry e x).sendOrder = s.sendOrder := rfl
@[simp] theorem State.setEntry_offeredInit (e : EntryId) (x : Entry) : (s.setEntry e x).offeredInit = s.offeredInit := rfl
@[simp] theorem State.setEntry_lastWinner (e : EntryId) (x : Entry) : (s.setEntry e x).lastWinner = s.lastWinner := rfl
@[simp] theorem State.setEntry_partInitiator (e : EntryId) (x : Entry) : (s.setEntry e x).partInitiator = s.partInitiator := rfl
@[simp] theorem State.setEntry_respLimit (e : EntryId) (x : Entry) : (s.setEntry e x).respLimit = s.respLimit := rfl
@[simp] theorem State.setEntry_eventMask (e : EntryId) (x : Entry) : (s.setEntry e x).eventMask = s.eventMask := rfl
@[simp] theorem State.setEntry_events (e : EntryId) (x : Entry) : (s.setEntry e x).events = s.events := rfl
@[simp] theorem State.setEntry_overflow (e : EntryId) (x : Entry) : (s.setEntry e x).overflow = s.overflow := rfl
@[simp] theorem State.setEntry_droppedEvents (e : EntryId) (x : Entry) : (s.setEntry e x).droppedEvents = s.droppedEvents := rfl
@[simp] theorem State.setEntry_stray (e : EntryId) (x : Entry) : (s.setEntry e x).stray = s.stray := rfl
@[simp] theorem State.setEntry_refusedRequests (e : EntryId) (x : Entry) : (s.setEntry e x).refusedRequests = s.refusedRequests := rfl
@[simp] theorem State.setEntry_mgmt (e : EntryId) (x : Entry) : (s.setEntry e x).mgmt = s.mgmt := rfl
@[simp] theorem State.setEntry_resetting (e : EntryId) (x : Entry) : (s.setEntry e x).resetting = s.resetting := rfl
@[simp] theorem State.setEntry_usOut (e : EntryId) (x : Entry) : (s.setEntry e x).usOut = s.usOut := rfl
@[simp] theorem State.setEntry_dqOut (e : EntryId) (x : Entry) : (s.setEntry e x).dqOut = s.dqOut := rfl
@[simp] theorem State.setEntry_misoOut (e : EntryId) (x : Entry) : (s.setEntry e x).misoOut = s.misoOut := rfl
@[simp] theorem State.setEntry_choice (e : EntryId) (x : Entry) : (s.setEntry e x).choice = s.choice := rfl

/-! ## respond -/

@[simp] theorem State.respond_pending (r : UpResponse) : (s.respond r).pending = s.pending := rfl
@[simp] theorem State.respond_rstAsserted (r : UpResponse) : (s.respond r).rstAsserted = s.rstAsserted := rfl
@[simp] theorem State.respond_csLow (r : UpResponse) : (s.respond r).csLow = s.csLow := rfl
@[simp] theorem State.respond_tick (r : UpResponse) : (s.respond r).tick = s.tick := rfl
@[simp] theorem State.respond_tickDiv (r : UpResponse) : (s.respond r).tickDiv = s.tickDiv := rfl
@[simp] theorem State.respond_tickLen (r : UpResponse) : (s.respond r).tickLen = s.tickLen := rfl
@[simp] theorem State.respond_chans (r : UpResponse) : (s.respond r).chans = s.chans := rfl
@[simp] theorem State.respond_descs (r : UpResponse) : (s.respond r).descs = s.descs := rfl
@[simp] theorem State.respond_intake (r : UpResponse) : (s.respond r).intake = s.intake := rfl
@[simp] theorem State.respond_forward (r : UpResponse) : (s.respond r).forward = s.forward := rfl
@[simp] theorem State.respond_hold (r : UpResponse) : (s.respond r).hold = s.hold := rfl
@[simp] theorem State.respond_records (r : UpResponse) : (s.respond r).records = s.records := rfl
@[simp] theorem State.respond_outstanding (r : UpResponse) : (s.respond r).outstanding = s.outstanding := rfl
@[simp] theorem State.respond_table (r : UpResponse) : (s.respond r).table = s.table := rfl
@[simp] theorem State.respond_sendOrder (r : UpResponse) : (s.respond r).sendOrder = s.sendOrder := rfl
@[simp] theorem State.respond_offeredInit (r : UpResponse) : (s.respond r).offeredInit = s.offeredInit := rfl
@[simp] theorem State.respond_lastWinner (r : UpResponse) : (s.respond r).lastWinner = s.lastWinner := rfl
@[simp] theorem State.respond_partInitiator (r : UpResponse) : (s.respond r).partInitiator = s.partInitiator := rfl
@[simp] theorem State.respond_respLimit (r : UpResponse) : (s.respond r).respLimit = s.respLimit := rfl
@[simp] theorem State.respond_eventMask (r : UpResponse) : (s.respond r).eventMask = s.eventMask := rfl
@[simp] theorem State.respond_events (r : UpResponse) : (s.respond r).events = s.events := rfl
@[simp] theorem State.respond_overflow (r : UpResponse) : (s.respond r).overflow = s.overflow := rfl
@[simp] theorem State.respond_droppedEvents (r : UpResponse) : (s.respond r).droppedEvents = s.droppedEvents := rfl
@[simp] theorem State.respond_stray (r : UpResponse) : (s.respond r).stray = s.stray := rfl
@[simp] theorem State.respond_refusedRequests (r : UpResponse) : (s.respond r).refusedRequests = s.refusedRequests := rfl
@[simp] theorem State.respond_mgmt (r : UpResponse) : (s.respond r).mgmt = s.mgmt := rfl
@[simp] theorem State.respond_resetting (r : UpResponse) : (s.respond r).resetting = s.resetting := rfl
@[simp] theorem State.respond_dqOut (r : UpResponse) : (s.respond r).dqOut = s.dqOut := rfl
@[simp] theorem State.respond_misoOut (r : UpResponse) : (s.respond r).misoOut = s.misoOut := rfl
@[simp] theorem State.respond_choice (r : UpResponse) : (s.respond r).choice = s.choice := rfl

/-! ## joinForward -/

@[simp] theorem State.joinForward_pending (r : Request) : (s.joinForward r).pending = s.pending := rfl
@[simp] theorem State.joinForward_rstAsserted (r : Request) : (s.joinForward r).rstAsserted = s.rstAsserted := rfl
@[simp] theorem State.joinForward_csLow (r : Request) : (s.joinForward r).csLow = s.csLow := rfl
@[simp] theorem State.joinForward_tick (r : Request) : (s.joinForward r).tick = s.tick := rfl
@[simp] theorem State.joinForward_tickDiv (r : Request) : (s.joinForward r).tickDiv = s.tickDiv := rfl
@[simp] theorem State.joinForward_tickLen (r : Request) : (s.joinForward r).tickLen = s.tickLen := rfl
@[simp] theorem State.joinForward_chans (r : Request) : (s.joinForward r).chans = s.chans := rfl
@[simp] theorem State.joinForward_descs (r : Request) : (s.joinForward r).descs = s.descs := rfl
@[simp] theorem State.joinForward_intake (r : Request) : (s.joinForward r).intake = s.intake := rfl
@[simp] theorem State.joinForward_hold (r : Request) : (s.joinForward r).hold = s.hold := rfl
@[simp] theorem State.joinForward_records (r : Request) : (s.joinForward r).records = s.records := rfl
@[simp] theorem State.joinForward_outstanding (r : Request) : (s.joinForward r).outstanding = s.outstanding := rfl
@[simp] theorem State.joinForward_table (r : Request) : (s.joinForward r).table = s.table := rfl
@[simp] theorem State.joinForward_sendOrder (r : Request) : (s.joinForward r).sendOrder = s.sendOrder := rfl
@[simp] theorem State.joinForward_offeredInit (r : Request) : (s.joinForward r).offeredInit = s.offeredInit := rfl
@[simp] theorem State.joinForward_lastWinner (r : Request) : (s.joinForward r).lastWinner = s.lastWinner := rfl
@[simp] theorem State.joinForward_partInitiator (r : Request) : (s.joinForward r).partInitiator = s.partInitiator := rfl
@[simp] theorem State.joinForward_respLimit (r : Request) : (s.joinForward r).respLimit = s.respLimit := rfl
@[simp] theorem State.joinForward_eventMask (r : Request) : (s.joinForward r).eventMask = s.eventMask := rfl
@[simp] theorem State.joinForward_events (r : Request) : (s.joinForward r).events = s.events := rfl
@[simp] theorem State.joinForward_overflow (r : Request) : (s.joinForward r).overflow = s.overflow := rfl
@[simp] theorem State.joinForward_droppedEvents (r : Request) : (s.joinForward r).droppedEvents = s.droppedEvents := rfl
@[simp] theorem State.joinForward_stray (r : Request) : (s.joinForward r).stray = s.stray := rfl
@[simp] theorem State.joinForward_refusedRequests (r : Request) : (s.joinForward r).refusedRequests = s.refusedRequests := rfl
@[simp] theorem State.joinForward_mgmt (r : Request) : (s.joinForward r).mgmt = s.mgmt := rfl
@[simp] theorem State.joinForward_resetting (r : Request) : (s.joinForward r).resetting = s.resetting := rfl
@[simp] theorem State.joinForward_usOut (r : Request) : (s.joinForward r).usOut = s.usOut := rfl
@[simp] theorem State.joinForward_dqOut (r : Request) : (s.joinForward r).dqOut = s.dqOut := rfl
@[simp] theorem State.joinForward_misoOut (r : Request) : (s.joinForward r).misoOut = s.misoOut := rfl
@[simp] theorem State.joinForward_choice (r : Request) : (s.joinForward r).choice = s.choice := rfl

/-! ## clearEventFifo -/

@[simp] theorem State.clearEventFifo_pending : (s.clearEventFifo).pending = s.pending := rfl
@[simp] theorem State.clearEventFifo_rstAsserted : (s.clearEventFifo).rstAsserted = s.rstAsserted := rfl
@[simp] theorem State.clearEventFifo_csLow : (s.clearEventFifo).csLow = s.csLow := rfl
@[simp] theorem State.clearEventFifo_tick : (s.clearEventFifo).tick = s.tick := rfl
@[simp] theorem State.clearEventFifo_tickDiv : (s.clearEventFifo).tickDiv = s.tickDiv := rfl
@[simp] theorem State.clearEventFifo_tickLen : (s.clearEventFifo).tickLen = s.tickLen := rfl
@[simp] theorem State.clearEventFifo_chans : (s.clearEventFifo).chans = s.chans := rfl
@[simp] theorem State.clearEventFifo_descs : (s.clearEventFifo).descs = s.descs := rfl
@[simp] theorem State.clearEventFifo_intake : (s.clearEventFifo).intake = s.intake := rfl
@[simp] theorem State.clearEventFifo_forward : (s.clearEventFifo).forward = s.forward := rfl
@[simp] theorem State.clearEventFifo_hold : (s.clearEventFifo).hold = s.hold := rfl
@[simp] theorem State.clearEventFifo_records : (s.clearEventFifo).records = s.records := rfl
@[simp] theorem State.clearEventFifo_outstanding : (s.clearEventFifo).outstanding = s.outstanding := rfl
@[simp] theorem State.clearEventFifo_table : (s.clearEventFifo).table = s.table := rfl
@[simp] theorem State.clearEventFifo_sendOrder : (s.clearEventFifo).sendOrder = s.sendOrder := rfl
@[simp] theorem State.clearEventFifo_offeredInit : (s.clearEventFifo).offeredInit = s.offeredInit := rfl
@[simp] theorem State.clearEventFifo_lastWinner : (s.clearEventFifo).lastWinner = s.lastWinner := rfl
@[simp] theorem State.clearEventFifo_partInitiator : (s.clearEventFifo).partInitiator = s.partInitiator := rfl
@[simp] theorem State.clearEventFifo_respLimit : (s.clearEventFifo).respLimit = s.respLimit := rfl
@[simp] theorem State.clearEventFifo_eventMask : (s.clearEventFifo).eventMask = s.eventMask := rfl
@[simp] theorem State.clearEventFifo_stray : (s.clearEventFifo).stray = s.stray := rfl
@[simp] theorem State.clearEventFifo_refusedRequests : (s.clearEventFifo).refusedRequests = s.refusedRequests := rfl
@[simp] theorem State.clearEventFifo_mgmt : (s.clearEventFifo).mgmt = s.mgmt := rfl
@[simp] theorem State.clearEventFifo_resetting : (s.clearEventFifo).resetting = s.resetting := rfl
@[simp] theorem State.clearEventFifo_usOut : (s.clearEventFifo).usOut = s.usOut := rfl
@[simp] theorem State.clearEventFifo_dqOut : (s.clearEventFifo).dqOut = s.dqOut := rfl
@[simp] theorem State.clearEventFifo_misoOut : (s.clearEventFifo).misoOut = s.misoOut := rfl
@[simp] theorem State.clearEventFifo_choice : (s.clearEventFifo).choice = s.choice := rfl

/-! ## answer -/

@[simp] theorem State.answer_pending (cmd : Cmd) (st : Status) (d : List Byte) : (s.answer cmd st d).pending = s.pending := rfl
@[simp] theorem State.answer_rstAsserted (cmd : Cmd) (st : Status) (d : List Byte) : (s.answer cmd st d).rstAsserted = s.rstAsserted := rfl
@[simp] theorem State.answer_csLow (cmd : Cmd) (st : Status) (d : List Byte) : (s.answer cmd st d).csLow = s.csLow := rfl
@[simp] theorem State.answer_tick (cmd : Cmd) (st : Status) (d : List Byte) : (s.answer cmd st d).tick = s.tick := rfl
@[simp] theorem State.answer_tickDiv (cmd : Cmd) (st : Status) (d : List Byte) : (s.answer cmd st d).tickDiv = s.tickDiv := rfl
@[simp] theorem State.answer_tickLen (cmd : Cmd) (st : Status) (d : List Byte) : (s.answer cmd st d).tickLen = s.tickLen := rfl
@[simp] theorem State.answer_chans (cmd : Cmd) (st : Status) (d : List Byte) : (s.answer cmd st d).chans = s.chans := rfl
@[simp] theorem State.answer_descs (cmd : Cmd) (st : Status) (d : List Byte) : (s.answer cmd st d).descs = s.descs := rfl
@[simp] theorem State.answer_intake (cmd : Cmd) (st : Status) (d : List Byte) : (s.answer cmd st d).intake = s.intake := rfl
@[simp] theorem State.answer_forward (cmd : Cmd) (st : Status) (d : List Byte) : (s.answer cmd st d).forward = s.forward := rfl
@[simp] theorem State.answer_hold (cmd : Cmd) (st : Status) (d : List Byte) : (s.answer cmd st d).hold = s.hold := rfl
@[simp] theorem State.answer_records (cmd : Cmd) (st : Status) (d : List Byte) : (s.answer cmd st d).records = s.records := rfl
@[simp] theorem State.answer_outstanding (cmd : Cmd) (st : Status) (d : List Byte) : (s.answer cmd st d).outstanding = s.outstanding := rfl
@[simp] theorem State.answer_table (cmd : Cmd) (st : Status) (d : List Byte) : (s.answer cmd st d).table = s.table := rfl
@[simp] theorem State.answer_sendOrder (cmd : Cmd) (st : Status) (d : List Byte) : (s.answer cmd st d).sendOrder = s.sendOrder := rfl
@[simp] theorem State.answer_offeredInit (cmd : Cmd) (st : Status) (d : List Byte) : (s.answer cmd st d).offeredInit = s.offeredInit := rfl
@[simp] theorem State.answer_lastWinner (cmd : Cmd) (st : Status) (d : List Byte) : (s.answer cmd st d).lastWinner = s.lastWinner := rfl
@[simp] theorem State.answer_partInitiator (cmd : Cmd) (st : Status) (d : List Byte) : (s.answer cmd st d).partInitiator = s.partInitiator := rfl
@[simp] theorem State.answer_respLimit (cmd : Cmd) (st : Status) (d : List Byte) : (s.answer cmd st d).respLimit = s.respLimit := rfl
@[simp] theorem State.answer_eventMask (cmd : Cmd) (st : Status) (d : List Byte) : (s.answer cmd st d).eventMask = s.eventMask := rfl
@[simp] theorem State.answer_events (cmd : Cmd) (st : Status) (d : List Byte) : (s.answer cmd st d).events = s.events := rfl
@[simp] theorem State.answer_overflow (cmd : Cmd) (st : Status) (d : List Byte) : (s.answer cmd st d).overflow = s.overflow := rfl
@[simp] theorem State.answer_droppedEvents (cmd : Cmd) (st : Status) (d : List Byte) : (s.answer cmd st d).droppedEvents = s.droppedEvents := rfl
@[simp] theorem State.answer_stray (cmd : Cmd) (st : Status) (d : List Byte) : (s.answer cmd st d).stray = s.stray := rfl
@[simp] theorem State.answer_refusedRequests (cmd : Cmd) (st : Status) (d : List Byte) : (s.answer cmd st d).refusedRequests = s.refusedRequests := rfl
@[simp] theorem State.answer_resetting (cmd : Cmd) (st : Status) (d : List Byte) : (s.answer cmd st d).resetting = s.resetting := rfl
@[simp] theorem State.answer_usOut (cmd : Cmd) (st : Status) (d : List Byte) : (s.answer cmd st d).usOut = s.usOut := rfl
@[simp] theorem State.answer_dqOut (cmd : Cmd) (st : Status) (d : List Byte) : (s.answer cmd st d).dqOut = s.dqOut := rfl
@[simp] theorem State.answer_choice (cmd : Cmd) (st : Status) (d : List Byte) : (s.answer cmd st d).choice = s.choice := rfl

/-! ## joinSend -/

@[simp] theorem State.joinSend_pending (es : List EntryId) : (s.joinSend es).pending = s.pending := rfl
@[simp] theorem State.joinSend_rstAsserted (es : List EntryId) : (s.joinSend es).rstAsserted = s.rstAsserted := rfl
@[simp] theorem State.joinSend_csLow (es : List EntryId) : (s.joinSend es).csLow = s.csLow := rfl
@[simp] theorem State.joinSend_tick (es : List EntryId) : (s.joinSend es).tick = s.tick := rfl
@[simp] theorem State.joinSend_tickDiv (es : List EntryId) : (s.joinSend es).tickDiv = s.tickDiv := rfl
@[simp] theorem State.joinSend_tickLen (es : List EntryId) : (s.joinSend es).tickLen = s.tickLen := rfl
@[simp] theorem State.joinSend_chans (es : List EntryId) : (s.joinSend es).chans = s.chans := rfl
@[simp] theorem State.joinSend_descs (es : List EntryId) : (s.joinSend es).descs = s.descs := rfl
@[simp] theorem State.joinSend_intake (es : List EntryId) : (s.joinSend es).intake = s.intake := rfl
@[simp] theorem State.joinSend_forward (es : List EntryId) : (s.joinSend es).forward = s.forward := rfl
@[simp] theorem State.joinSend_hold (es : List EntryId) : (s.joinSend es).hold = s.hold := rfl
@[simp] theorem State.joinSend_records (es : List EntryId) : (s.joinSend es).records = s.records := rfl
@[simp] theorem State.joinSend_outstanding (es : List EntryId) : (s.joinSend es).outstanding = s.outstanding := rfl
@[simp] theorem State.joinSend_table (es : List EntryId) : (s.joinSend es).table = s.table := rfl
@[simp] theorem State.joinSend_lastWinner (es : List EntryId) : (s.joinSend es).lastWinner = s.lastWinner := rfl
@[simp] theorem State.joinSend_partInitiator (es : List EntryId) : (s.joinSend es).partInitiator = s.partInitiator := rfl
@[simp] theorem State.joinSend_respLimit (es : List EntryId) : (s.joinSend es).respLimit = s.respLimit := rfl
@[simp] theorem State.joinSend_eventMask (es : List EntryId) : (s.joinSend es).eventMask = s.eventMask := rfl
@[simp] theorem State.joinSend_events (es : List EntryId) : (s.joinSend es).events = s.events := rfl
@[simp] theorem State.joinSend_overflow (es : List EntryId) : (s.joinSend es).overflow = s.overflow := rfl
@[simp] theorem State.joinSend_droppedEvents (es : List EntryId) : (s.joinSend es).droppedEvents = s.droppedEvents := rfl
@[simp] theorem State.joinSend_stray (es : List EntryId) : (s.joinSend es).stray = s.stray := rfl
@[simp] theorem State.joinSend_refusedRequests (es : List EntryId) : (s.joinSend es).refusedRequests = s.refusedRequests := rfl
@[simp] theorem State.joinSend_mgmt (es : List EntryId) : (s.joinSend es).mgmt = s.mgmt := rfl
@[simp] theorem State.joinSend_resetting (es : List EntryId) : (s.joinSend es).resetting = s.resetting := rfl
@[simp] theorem State.joinSend_usOut (es : List EntryId) : (s.joinSend es).usOut = s.usOut := rfl
@[simp] theorem State.joinSend_dqOut (es : List EntryId) : (s.joinSend es).dqOut = s.dqOut := rfl
@[simp] theorem State.joinSend_misoOut (es : List EntryId) : (s.joinSend es).misoOut = s.misoOut := rfl
@[simp] theorem State.joinSend_choice (es : List EntryId) : (s.joinSend es).choice = s.choice := rfl

/-! ## What each update writes -/

@[simp] theorem State.respond_usOut (r : UpResponse) : (s.respond r).usOut = s.usOut ++ [r] := rfl
@[simp] theorem State.joinForward_forward (r : Request) : (s.joinForward r).forward = s.forward ++ [r] := rfl
@[simp] theorem State.clearEventFifo_events : s.clearEventFifo.events = [] := rfl
@[simp] theorem State.clearEventFifo_overflow : s.clearEventFifo.overflow = false := rfl
@[simp] theorem State.clearEventFifo_droppedEvents : s.clearEventFifo.droppedEvents = 0 := rfl
@[simp] theorem State.answer_misoOut (cmd : Cmd) (st : Status) (d : List Byte) :
    (s.answer cmd st d).misoOut = s.misoOut ++ [0] := rfl
@[simp] theorem State.joinSend_sendOrder (es : List EntryId) : (s.joinSend es).sendOrder = s.sendOrder ++ es := rfl

/-! ## Channels and entries read back -/

theorem State.chan_setChan (c d : ChanId) (ch : Channel) :
    (s.setChan c ch).chan d = if c = d then ch else s.chan d := by
  by_cases h : c = d
  · subst h; simp [State.setChan, State.chan]
  · have hv : c.val ≠ d.val := fun e => h (Fin.ext e)
    simp [State.setChan, State.chan, hv, h]

@[simp] theorem State.chan_setChan_self (c : ChanId) (ch : Channel) : (s.setChan c ch).chan c = ch := by
  simp [State.chan_setChan]

theorem State.chan_setChan_of_ne (c d : ChanId) (ch : Channel) (h : c ≠ d) : (s.setChan c ch).chan d = s.chan d := by
  simp [State.chan_setChan, h]

theorem State.entry_setEntry (e f : EntryId) (x : Entry) :
    (s.setEntry e x).entry f = if e = f then x else s.entry f := by
  by_cases h : e = f
  · subst h; simp [State.setEntry, State.entry]
  · have hv : e.val ≠ f.val := fun h' => h (Fin.ext h')
    simp [State.setEntry, State.entry, hv, h]

@[simp] theorem State.entry_setEntry_self (e : EntryId) (x : Entry) : (s.setEntry e x).entry e = x := by
  simp [State.entry_setEntry]

theorem State.entry_setEntry_of_ne (e f : EntryId) (x : Entry) (h : e ≠ f) : (s.setEntry e x).entry f = s.entry f := by
  simp [State.entry_setEntry, h]

/-- A channel is read from `chans` alone. -/
theorem State.chan_eq_of_chans {t : State} (h : t.chans = s.chans) (c : ChanId) : t.chan c = s.chan c := by
  simp [State.chan, h]

/-- An entry is read from `table` alone. -/
theorem State.entry_eq_of_table {t : State} (h : t.table = s.table) (e : EntryId) : t.entry e = s.entry e := by
  simp [State.entry, h]

/-- Of two replacements of one channel the later stands. -/
theorem State.setChan_setChan (c : ChanId) (a b : Channel) : (s.setChan c a).setChan c b = s.setChan c b := by
  simp [State.setChan]

/-- Replacing a channel by itself changes nothing. -/
theorem State.setChan_same (c : ChanId) : s.setChan c (s.chan c) = s := by
  simp [State.setChan, State.chan]

@[simp] theorem State.entry_setChan (c : ChanId) (ch : Channel) (k : EntryId) : (s.setChan c ch).entry k = s.entry k := rfl
@[simp] theorem State.chan_setEntry (e : EntryId) (x : Entry) (k : ChanId) : (s.setEntry e x).chan k = s.chan k := rfl
@[simp] theorem State.chan_respond (r : UpResponse) (k : ChanId) : (s.respond r).chan k = s.chan k := rfl
@[simp] theorem State.entry_respond (r : UpResponse) (k : EntryId) : (s.respond r).entry k = s.entry k := rfl
@[simp] theorem State.chan_joinForward (r : Request) (k : ChanId) : (s.joinForward r).chan k = s.chan k := rfl
@[simp] theorem State.entry_joinForward (r : Request) (k : EntryId) : (s.joinForward r).entry k = s.entry k := rfl
@[simp] theorem State.chan_clearEventFifo (k : ChanId) : (s.clearEventFifo).chan k = s.chan k := rfl
@[simp] theorem State.entry_clearEventFifo (k : EntryId) : (s.clearEventFifo).entry k = s.entry k := rfl
@[simp] theorem State.chan_answer (cmd : Cmd) (st : Status) (d : List Byte) (k : ChanId) : (s.answer cmd st d).chan k = s.chan k := rfl
@[simp] theorem State.entry_answer (cmd : Cmd) (st : Status) (d : List Byte) (k : EntryId) : (s.answer cmd st d).entry k = s.entry k := rfl
@[simp] theorem State.chan_joinSend (es : List EntryId) (k : ChanId) : (s.joinSend es).chan k = s.chan k := rfl
@[simp] theorem State.entry_joinSend (es : List EntryId) (k : EntryId) : (s.joinSend es).entry k = s.entry k := rfl

end Sys2Proof.Machine
end

