-- ==== Sys2Proof/Laws/Ops.lean ====
section
/-! SUPPORT. For each shared operation, one lemma that says once everything it can do, and its field lemmas. -/

namespace Sys2Proof.Machine

/-! ## Saturating counters (R150, R152) -/

theorem satInc_toNat {w : Nat} (c : BitVec w) : (satInc c).toNat = min (c.toNat + 1) (2 ^ w - 1) := by
  unfold satInc
  have hpos : 0 < 2 ^ w := Nat.two_pow_pos w
  have hc := c.isLt
  split
  · next h => subst h; simp
  · next h =>
    have hne : c.toNat ≠ 2 ^ w - 1 := by
      intro e; apply h; apply BitVec.eq_of_toNat_eq; simpa using e
    rw [BitVec.toNat_add, BitVec.ofNat_eq_ofNat, BitVec.toNat_ofNat]
    by_cases hw : w = 0
    · subst hw; simp at hne; omega
    · have h1 : 1 < 2 ^ w := Nat.one_lt_two_pow hw
      rw [Nat.mod_eq_of_lt h1, Nat.mod_eq_of_lt (by omega)]
      omega

theorem le_satInc {w : Nat} (c : BitVec w) : c.toNat ≤ (satInc c).toNat := by
  rw [satInc_toNat]; have := c.isLt; omega

/-! ## Events -/

/-- The Event Unit's three outcomes (R142, R144): masked, entered, dropped. -/
theorem State.logEvent_cases (s : State) (e : RawEvent) :
    (kindEnabled s.eventMask e.kind = false ∧ s.logEvent e = s) ∨
    (kindEnabled s.eventMask e.kind = true ∧ s.events.length < 32 ∧
      s.logEvent e = { s with events := s.events ++ [⟨e.kind, e.chan, s.tick, e.detail⟩] }) ∨
    (kindEnabled s.eventMask e.kind = true ∧ 32 ≤ s.events.length ∧
      s.logEvent e = { s with overflow := true, droppedEvents := satInc s.droppedEvents }) := by
  unfold State.logEvent
  split
  · next h =>
    split
    · next h2 => exact .inr (.inl ⟨h, h2, rfl⟩)
    · next h2 => exact .inr (.inr ⟨h, by simpa using h2, rfl⟩)
  · next h => exact .inl ⟨by simpa using h, rfl⟩

/-- Taking events changes the FIFO, OVERFLOW and DROPPED_EVENTS and nothing else, and never passes the FIFO's room. -/
theorem State.logAll_spec (es : List RawEvent) (s : State) :
    ∃ ev ov dr, s.logAll es = { s with events := ev, overflow := ov, droppedEvents := dr } ∧
      (s.events.length ≤ 32 → ev.length ≤ 32) := by
  induction es generalizing s with
  | nil => exact ⟨s.events, s.overflow, s.droppedEvents, rfl, id⟩
  | cons e es ih =>
    obtain ⟨ev, ov, dr, h, hl⟩ := ih (s.logEvent e)
    have hs : s.logAll (e :: es) = (s.logEvent e).logAll es := rfl
    rcases s.logEvent_cases e with ⟨-, h1⟩ | ⟨-, hlt, h1⟩ | ⟨-, -, h1⟩ <;> rw [hs, h, h1]
    · exact ⟨ev, ov, dr, rfl, by rw [h1] at hl; exact hl⟩
    · exact ⟨ev, ov, dr, rfl, fun _ => hl (by rw [h1]; simp; omega)⟩
    · exact ⟨ev, ov, dr, rfl, fun hh => hl (by rw [h1]; exact hh)⟩

/-- Raising the events of a happening changes the FIFO, OVERFLOW, DROPPED_EVENTS and the count of free choices. -/
theorem State.raise_spec (s : State) (qs : List (List RawEvent)) :
    ∃ ev ov dr k, s.raise qs = { s with events := ev, overflow := ov, droppedEvents := dr, choice := k } ∧
      (s.events.length ≤ 32 → ev.length ≤ 32) := by
  obtain ⟨ev, ov, dr, h, hl⟩ := State.logAll_spec (mergeOrder qs.flatten.length s.choice qs).1
    { s with choice := (mergeOrder qs.flatten.length s.choice qs).2 }
  exact ⟨ev, ov, dr, _, h, hl⟩

/-- Events of one block alone are entered in that block's order, with no free choice. -/
theorem State.raise_single (s : State) (q : List RawEvent) : s.raise [q] = s.logAll q := by
  unfold State.raise
  cases q with
  | nil => rfl
  | cons e es => simp [mergeOrder]

theorem State.raise_single_nil (s : State) : s.raise [[]] = s := State.raise_single s []

@[simp] theorem State.raise_pending (s : State) (qs : List (List RawEvent)) : (s.raise qs).pending = s.pending := by
  obtain ⟨_, _, _, _, h, -⟩ := s.raise_spec qs; rw [h]
@[simp] theorem State.raise_rstAsserted (s : State) (qs : List (List RawEvent)) : (s.raise qs).rstAsserted = s.rstAsserted := by
  obtain ⟨_, _, _, _, h, -⟩ := s.raise_spec qs; rw [h]
@[simp] theorem State.raise_csLow (s : State) (qs : List (List RawEvent)) : (s.raise qs).csLow = s.csLow := by
  obtain ⟨_, _, _, _, h, -⟩ := s.raise_spec qs; rw [h]
@[simp] theorem State.raise_tick (s : State) (qs : List (List RawEvent)) : (s.raise qs).tick = s.tick := by
  obtain ⟨_, _, _, _, h, -⟩ := s.raise_spec qs; rw [h]
@[simp] theorem State.raise_tickDiv (s : State) (qs : List (List RawEvent)) : (s.raise qs).tickDiv = s.tickDiv := by
  obtain ⟨_, _, _, _, h, -⟩ := s.raise_spec qs; rw [h]
@[simp] theorem State.raise_tickLen (s : State) (qs : List (List RawEvent)) : (s.raise qs).tickLen = s.tickLen := by
  obtain ⟨_, _, _, _, h, -⟩ := s.raise_spec qs; rw [h]
@[simp] theorem State.raise_chans (s : State) (qs : List (List RawEvent)) : (s.raise qs).chans = s.chans := by
  obtain ⟨_, _, _, _, h, -⟩ := s.raise_spec qs; rw [h]
@[simp] theorem State.raise_descs (s : State) (qs : List (List RawEvent)) : (s.raise qs).descs = s.descs := by
  obtain ⟨_, _, _, _, h, -⟩ := s.raise_spec qs; rw [h]
@[simp] theorem State.raise_intake (s : State) (qs : List (List RawEvent)) : (s.raise qs).intake = s.intake := by
  obtain ⟨_, _, _, _, h, -⟩ := s.raise_spec qs; rw [h]
@[simp] theorem State.raise_forward (s : State) (qs : List (List RawEvent)) : (s.raise qs).forward = s.forward := by
  obtain ⟨_, _, _, _, h, -⟩ := s.raise_spec qs; rw [h]
@[simp] theorem State.raise_hold (s : State) (qs : List (List RawEvent)) : (s.raise qs).hold = s.hold := by
  obtain ⟨_, _, _, _, h, -⟩ := s.raise_spec qs; rw [h]
@[simp] theorem State.raise_records (s : State) (qs : List (List RawEvent)) : (s.raise qs).records = s.records := by
  obtain ⟨_, _, _, _, h, -⟩ := s.raise_spec qs; rw [h]
@[simp] theorem State.raise_outstanding (s : State) (qs : List (List RawEvent)) : (s.raise qs).outstanding = s.outstanding := by
  obtain ⟨_, _, _, _, h, -⟩ := s.raise_spec qs; rw [h]
@[simp] theorem State.raise_table (s : State) (qs : List (List RawEvent)) : (s.raise qs).table = s.table := by
  obtain ⟨_, _, _, _, h, -⟩ := s.raise_spec qs; rw [h]
@[simp] theorem State.raise_sendOrder (s : State) (qs : List (List RawEvent)) : (s.raise qs).sendOrder = s.sendOrder := by
  obtain ⟨_, _, _, _, h, -⟩ := s.raise_spec qs; rw [h]
@[simp] theorem State.raise_offeredInit (s : State) (qs : List (List RawEvent)) : (s.raise qs).offeredInit = s.offeredInit := by
  obtain ⟨_, _, _, _, h, -⟩ := s.raise_spec qs; rw [h]
@[simp] theorem State.raise_lastWinner (s : State) (qs : List (List RawEvent)) : (s.raise qs).lastWinner = s.lastWinner := by
  obtain ⟨_, _, _, _, h, -⟩ := s.raise_spec qs; rw [h]
@[simp] theorem State.raise_partInitiator (s : State) (qs : List (List RawEvent)) : (s.raise qs).partInitiator = s.partInitiator := by
  obtain ⟨_, _, _, _, h, -⟩ := s.raise_spec qs; rw [h]
@[simp] theorem State.raise_respLimit (s : State) (qs : List (List RawEvent)) : (s.raise qs).respLimit = s.respLimit := by
  obtain ⟨_, _, _, _, h, -⟩ := s.raise_spec qs; rw [h]
@[simp] theorem State.raise_eventMask (s : State) (qs : List (List RawEvent)) : (s.raise qs).eventMask = s.eventMask := by
  obtain ⟨_, _, _, _, h, -⟩ := s.raise_spec qs; rw [h]
@[simp] theorem State.raise_stray (s : State) (qs : List (List RawEvent)) : (s.raise qs).stray = s.stray := by
  obtain ⟨_, _, _, _, h, -⟩ := s.raise_spec qs; rw [h]
@[simp] theorem State.raise_refusedRequests (s : State) (qs : List (List RawEvent)) : (s.raise qs).refusedRequests = s.refusedRequests := by
  obtain ⟨_, _, _, _, h, -⟩ := s.raise_spec qs; rw [h]
@[simp] theorem State.raise_mgmt (s : State) (qs : List (List RawEvent)) : (s.raise qs).mgmt = s.mgmt := by
  obtain ⟨_, _, _, _, h, -⟩ := s.raise_spec qs; rw [h]
@[simp] theorem State.raise_resetting (s : State) (qs : List (List RawEvent)) : (s.raise qs).resetting = s.resetting := by
  obtain ⟨_, _, _, _, h, -⟩ := s.raise_spec qs; rw [h]
@[simp] theorem State.raise_usOut (s : State) (qs : List (List RawEvent)) : (s.raise qs).usOut = s.usOut := by
  obtain ⟨_, _, _, _, h, -⟩ := s.raise_spec qs; rw [h]
@[simp] theorem State.raise_dqOut (s : State) (qs : List (List RawEvent)) : (s.raise qs).dqOut = s.dqOut := by
  obtain ⟨_, _, _, _, h, -⟩ := s.raise_spec qs; rw [h]
@[simp] theorem State.raise_misoOut (s : State) (qs : List (List RawEvent)) : (s.raise qs).misoOut = s.misoOut := by
  obtain ⟨_, _, _, _, h, -⟩ := s.raise_spec qs; rw [h]
@[simp] theorem State.chan_raise (s : State) (qs : List (List RawEvent)) (c : ChanId) : (s.raise qs).chan c = s.chan c :=
  State.chan_eq_of_chans s (by simp) c
@[simp] theorem State.entry_raise (s : State) (qs : List (List RawEvent)) (e : EntryId) :
    (s.raise qs).entry e = s.entry e := State.entry_eq_of_table s (by simp) e

theorem State.raise_events_length (s : State) (qs : List (List RawEvent)) (h : s.events.length ≤ 32) :
    (s.raise qs).events.length ≤ 32 := by
  obtain ⟨_, _, _, _, hr, hl⟩ := s.raise_spec qs; rw [hr]; exact hl h

/-! ## Reservations (R93, R101) -/

/-- The end of a reservation touches the Hold List alone, and there only the conditions of the slot's reads. -/
theorem State.endReservation_spec (s : State) (c : ChanId) (slot : Nat) :
    (s.reserved c slot = true ∧ s.endReservation c slot = s) ∨
    (s.reserved c slot = false ∧
      s.endReservation c slot = { s with hold := s.hold.map (HoldEntry.release c slot) }) := by
  unfold State.endReservation
  split
  · next h => exact .inl ⟨h, rfl⟩
  · next h => exact .inr ⟨by simpa using h, rfl⟩

@[simp] theorem State.endReservation_pending (s : State) (c : ChanId) (slot : Nat) : (s.endReservation c slot).pending = s.pending := by
  rcases s.endReservation_spec c slot with ⟨-, h⟩ | ⟨-, h⟩ <;> rw [h]
@[simp] theorem State.endReservation_rstAsserted (s : State) (c : ChanId) (slot : Nat) : (s.endReservation c slot).rstAsserted = s.rstAsserted := by
  rcases s.endReservation_spec c slot with ⟨-, h⟩ | ⟨-, h⟩ <;> rw [h]
@[simp] theorem State.endReservation_csLow (s : State) (c : ChanId) (slot : Nat) : (s.endReservation c slot).csLow = s.csLow := by
  rcases s.endReservation_spec c slot with ⟨-, h⟩ | ⟨-, h⟩ <;> rw [h]
@[simp] theorem State.endReservation_tick (s : State) (c : ChanId) (slot : Nat) : (s.endReservation c slot).tick = s.tick := by
  rcases s.endReservation_spec c slot with ⟨-, h⟩ | ⟨-, h⟩ <;> rw [h]
@[simp] theorem State.endReservation_tickDiv (s : State) (c : ChanId) (slot : Nat) : (s.endReservation c slot).tickDiv = s.tickDiv := by
  rcases s.endReservation_spec c slot with ⟨-, h⟩ | ⟨-, h⟩ <;> rw [h]
@[simp] theorem State.endReservation_tickLen (s : State) (c : ChanId) (slot : Nat) : (s.endReservation c slot).tickLen = s.tickLen := by
  rcases s.endReservation_spec c slot with ⟨-, h⟩ | ⟨-, h⟩ <;> rw [h]
@[simp] theorem State.endReservation_chans (s : State) (c : ChanId) (slot : Nat) : (s.endReservation c slot).chans = s.chans := by
  rcases s.endReservation_spec c slot with ⟨-, h⟩ | ⟨-, h⟩ <;> rw [h]
@[simp] theorem State.endReservation_descs (s : State) (c : ChanId) (slot : Nat) : (s.endReservation c slot).descs = s.descs := by
  rcases s.endReservation_spec c slot with ⟨-, h⟩ | ⟨-, h⟩ <;> rw [h]
@[simp] theorem State.endReservation_intake (s : State) (c : ChanId) (slot : Nat) : (s.endReservation c slot).intake = s.intake := by
  rcases s.endReservation_spec c slot with ⟨-, h⟩ | ⟨-, h⟩ <;> rw [h]
@[simp] theorem State.endReservation_forward (s : State) (c : ChanId) (slot : Nat) : (s.endReservation c slot).forward = s.forward := by
  rcases s.endReservation_spec c slot with ⟨-, h⟩ | ⟨-, h⟩ <;> rw [h]
@[simp] theorem State.endReservation_records (s : State) (c : ChanId) (slot : Nat) : (s.endReservation c slot).records = s.records := by
  rcases s.endReservation_spec c slot with ⟨-, h⟩ | ⟨-, h⟩ <;> rw [h]
@[simp] theorem State.endReservation_outstanding (s : State) (c : ChanId) (slot : Nat) : (s.endReservation c slot).outstanding = s.outstanding := by
  rcases s.endReservation_spec c slot with ⟨-, h⟩ | ⟨-, h⟩ <;> rw [h]
@[simp] theorem State.endReservation_table (s : State) (c : ChanId) (slot : Nat) : (s.endReservation c slot).table = s.table := by
  rcases s.endReservation_spec c slot with ⟨-, h⟩ | ⟨-, h⟩ <;> rw [h]
@[simp] theorem State.endReservation_sendOrder (s : State) (c : ChanId) (slot : Nat) : (s.endReservation c slot).sendOrder = s.sendOrder := by
  rcases s.endReservation_spec c slot with ⟨-, h⟩ | ⟨-, h⟩ <;> rw [h]
@[simp] theorem State.endReservation_offeredInit (s : State) (c : ChanId) (slot : Nat) : (s.endReservation c slot).offeredInit = s.offeredInit := by
  rcases s.endReservation_spec c slot with ⟨-, h⟩ | ⟨-, h⟩ <;> rw [h]
@[simp] theorem State.endReservation_lastWinner (s : State) (c : ChanId) (slot : Nat) : (s.endReservation c slot).lastWinner = s.lastWinner := by
  rcases s.endReservation_spec c slot with ⟨-, h⟩ | ⟨-, h⟩ <;> rw [h]
@[simp] theorem State.endReservation_partInitiator (s : State) (c : ChanId) (slot : Nat) : (s.endReservation c slot).partInitiator = s.partInitiator := by
  rcases s.endReservation_spec c slot with ⟨-, h⟩ | ⟨-, h⟩ <;> rw [h]
@[simp] theorem State.endReservation_respLimit (s : State) (c : ChanId) (slot : Nat) : (s.endReservation c slot).respLimit = s.respLimit := by
  rcases s.endReservation_spec c slot with ⟨-, h⟩ | ⟨-, h⟩ <;> rw [h]
@[simp] theorem State.endReservation_eventMask (s : State) (c : ChanId) (slot : Nat) : (s.endReservation c slot).eventMask = s.eventMask := by
  rcases s.endReservation_spec c slot with ⟨-, h⟩ | ⟨-, h⟩ <;> rw [h]
@[simp] theorem State.endReservation_events (s : State) (c : ChanId) (slot : Nat) : (s.endReservation c slot).events = s.events := by
  rcases s.endReservation_spec c slot with ⟨-, h⟩ | ⟨-, h⟩ <;> rw [h]
@[simp] theorem State.endReservation_overflow (s : State) (c : ChanId) (slot : Nat) : (s.endReservation c slot).overflow = s.overflow := by
  rcases s.endReservation_spec c slot with ⟨-, h⟩ | ⟨-, h⟩ <;> rw [h]
@[simp] theorem State.endReservation_droppedEvents (s : State) (c : ChanId) (slot : Nat) : (s.endReservation c slot).droppedEvents = s.droppedEvents := by
  rcases s.endReservation_spec c slot with ⟨-, h⟩ | ⟨-, h⟩ <;> rw [h]
@[simp] theorem State.endReservation_stray (s : State) (c : ChanId) (slot : Nat) : (s.endReservation c slot).stray = s.stray := by
  rcases s.endReservation_spec c slot with ⟨-, h⟩ | ⟨-, h⟩ <;> rw [h]
@[simp] theorem State.endReservation_refusedRequests (s : State) (c : ChanId) (slot : Nat) : (s.endReservation c slot).refusedRequests = s.refusedRequests := by
  rcases s.endReservation_spec c slot with ⟨-, h⟩ | ⟨-, h⟩ <;> rw [h]
@[simp] theorem State.endReservation_mgmt (s : State) (c : ChanId) (slot : Nat) : (s.endReservation c slot).mgmt = s.mgmt := by
  rcases s.endReservation_spec c slot with ⟨-, h⟩ | ⟨-, h⟩ <;> rw [h]
@[simp] theorem State.endReservation_resetting (s : State) (c : ChanId) (slot : Nat) : (s.endReservation c slot).resetting = s.resetting := by
  rcases s.endReservation_spec c slot with ⟨-, h⟩ | ⟨-, h⟩ <;> rw [h]
@[simp] theorem State.endReservation_usOut (s : State) (c : ChanId) (slot : Nat) : (s.endReservation c slot).usOut = s.usOut := by
  rcases s.endReservation_spec c slot with ⟨-, h⟩ | ⟨-, h⟩ <;> rw [h]
@[simp] theorem State.endReservation_dqOut (s : State) (c : ChanId) (slot : Nat) : (s.endReservation c slot).dqOut = s.dqOut := by
  rcases s.endReservation_spec c slot with ⟨-, h⟩ | ⟨-, h⟩ <;> rw [h]
@[simp] theorem State.endReservation_misoOut (s : State) (c : ChanId) (slot : Nat) : (s.endReservation c slot).misoOut = s.misoOut := by
  rcases s.endReservation_spec c slot with ⟨-, h⟩ | ⟨-, h⟩ <;> rw [h]
@[simp] theorem State.endReservation_choice (s : State) (c : ChanId) (slot : Nat) : (s.endReservation c slot).choice = s.choice := by
  rcases s.endReservation_spec c slot with ⟨-, h⟩ | ⟨-, h⟩ <;> rw [h]
@[simp] theorem State.chan_endReservation (s : State) (c : ChanId) (slot : Nat) (k : ChanId) :
    (s.endReservation c slot).chan k = s.chan k := State.chan_eq_of_chans s (by simp) k
@[simp] theorem State.entry_endReservation (s : State) (c : ChanId) (slot : Nat) (e : EntryId) :
    (s.endReservation c slot).entry e = s.entry e := State.entry_eq_of_table s (by simp) e
@[simp] theorem State.endReservation_hold_length (s : State) (c : ChanId) (slot : Nat) :
    (s.endReservation c slot).hold.length = s.hold.length := by
  rcases s.endReservation_spec c slot with ⟨-, h⟩ | ⟨-, h⟩ <;> simp [h]

@[simp] theorem HoldEntry.release_req (c : ChanId) (slot : Nat) (h : HoldEntry) : (h.release c slot).req = h.req := by
  unfold HoldEntry.release; split <;> rfl
@[simp] theorem HoldEntry.release_chan (c : ChanId) (slot : Nat) (h : HoldEntry) : (h.release c slot).chan = h.chan := by
  unfold HoldEntry.release; split <;> rfl
@[simp] theorem HoldEntry.release_slot (c : ChanId) (slot : Nat) (h : HoldEntry) : (h.release c slot).slot = h.slot := by
  unfold HoldEntry.release; split <;> rfl

/-! ## The drain test (R16) -/

/-- The drain test either changes nothing, or makes one DRAINING channel that meets the condition DISABLED. -/
theorem State.drainTest_spec (s : State) (c : ChanId) :
    ((s.drainTest c).1 = s ∧ (s.drainTest c).2 = []) ∨
    ((s.chan c).rt.state = .draining ∧ s.drained c = true ∧
      (s.drainTest c).1 = s.setChan c { s.chan c with rt := { (s.chan c).rt with state := .disabled } } ∧
      (s.drainTest c).2 = [⟨.chDrained, some c, 0⟩]) := by
  unfold State.drainTest
  dsimp only
  split
  · next h => exact .inr ⟨h.1, h.2, rfl, rfl⟩
  · exact .inl ⟨rfl, rfl⟩

@[simp] theorem State.drainTest_pending (s : State) (c : ChanId) : (s.drainTest c).1.pending = s.pending := by
  rcases s.drainTest_spec c with ⟨h, -⟩ | ⟨-, -, h, -⟩ <;> simp [h]
@[simp] theorem State.drainTest_rstAsserted (s : State) (c : ChanId) : (s.drainTest c).1.rstAsserted = s.rstAsserted := by
  rcases s.drainTest_spec c with ⟨h, -⟩ | ⟨-, -, h, -⟩ <;> simp [h]
@[simp] theorem State.drainTest_csLow (s : State) (c : ChanId) : (s.drainTest c).1.csLow = s.csLow := by
  rcases s.drainTest_spec c with ⟨h, -⟩ | ⟨-, -, h, -⟩ <;> simp [h]
@[simp] theorem State.drainTest_tick (s : State) (c : ChanId) : (s.drainTest c).1.tick = s.tick := by
  rcases s.drainTest_spec c with ⟨h, -⟩ | ⟨-, -, h, -⟩ <;> simp [h]
@[simp] theorem State.drainTest_tickDiv (s : State) (c : ChanId) : (s.drainTest c).1.tickDiv = s.tickDiv := by
  rcases s.drainTest_spec c with ⟨h, -⟩ | ⟨-, -, h, -⟩ <;> simp [h]
@[simp] theorem State.drainTest_tickLen (s : State) (c : ChanId) : (s.drainTest c).1.tickLen = s.tickLen := by
  rcases s.drainTest_spec c with ⟨h, -⟩ | ⟨-, -, h, -⟩ <;> simp [h]
@[simp] theorem State.drainTest_descs (s : State) (c : ChanId) : (s.drainTest c).1.descs = s.descs := by
  rcases s.drainTest_spec c with ⟨h, -⟩ | ⟨-, -, h, -⟩ <;> simp [h]
@[simp] theorem State.drainTest_intake (s : State) (c : ChanId) : (s.drainTest c).1.intake = s.intake := by
  rcases s.drainTest_spec c with ⟨h, -⟩ | ⟨-, -, h, -⟩ <;> simp [h]
@[simp] theorem State.drainTest_forward (s : State) (c : ChanId) : (s.drainTest c).1.forward = s.forward := by
  rcases s.drainTest_spec c with ⟨h, -⟩ | ⟨-, -, h, -⟩ <;> simp [h]
@[simp] theorem State.drainTest_hold (s : State) (c : ChanId) : (s.drainTest c).1.hold = s.hold := by
  rcases s.drainTest_spec c with ⟨h, -⟩ | ⟨-, -, h, -⟩ <;> simp [h]
@[simp] theorem State.drainTest_records (s : State) (c : ChanId) : (s.drainTest c).1.records = s.records := by
  rcases s.drainTest_spec c with ⟨h, -⟩ | ⟨-, -, h, -⟩ <;> simp [h]
@[simp] theorem State.drainTest_outstanding (s : State) (c : ChanId) : (s.drainTest c).1.outstanding = s.outstanding := by
  rcases s.drainTest_spec c with ⟨h, -⟩ | ⟨-, -, h, -⟩ <;> simp [h]
@[simp] theorem State.drainTest_table (s : State) (c : ChanId) : (s.drainTest c).1.table = s.table := by
  rcases s.drainTest_spec c with ⟨h, -⟩ | ⟨-, -, h, -⟩ <;> simp [h]
@[simp] theorem State.drainTest_sendOrder (s : State) (c : ChanId) : (s.drainTest c).1.sendOrder = s.sendOrder := by
  rcases s.drainTest_spec c with ⟨h, -⟩ | ⟨-, -, h, -⟩ <;> simp [h]
@[simp] theorem State.drainTest_offeredInit (s : State) (c : ChanId) : (s.drainTest c).1.offeredInit = s.offeredInit := by
  rcases s.drainTest_spec c with ⟨h, -⟩ | ⟨-, -, h, -⟩ <;> simp [h]
@[simp] theorem State.drainTest_lastWinner (s : State) (c : ChanId) : (s.drainTest c).1.lastWinner = s.lastWinner := by
  rcases s.drainTest_spec c with ⟨h, -⟩ | ⟨-, -, h, -⟩ <;> simp [h]
@[simp] theorem State.drainTest_partInitiator (s : State) (c : ChanId) : (s.drainTest c).1.partInitiator = s.partInitiator := by
  rcases s.drainTest_spec c with ⟨h, -⟩ | ⟨-, -, h, -⟩ <;> simp [h]
@[simp] theorem State.drainTest_respLimit (s : State) (c : ChanId) : (s.drainTest c).1.respLimit = s.respLimit := by
  rcases s.drainTest_spec c with ⟨h, -⟩ | ⟨-, -, h, -⟩ <;> simp [h]
@[simp] theorem State.drainTest_eventMask (s : State) (c : ChanId) : (s.drainTest c).1.eventMask = s.eventMask := by
  rcases s.drainTest_spec c with ⟨h, -⟩ | ⟨-, -, h, -⟩ <;> simp [h]
@[simp] theorem State.drainTest_events (s : State) (c : ChanId) : (s.drainTest c).1.events = s.events := by
  rcases s.drainTest_spec c with ⟨h, -⟩ | ⟨-, -, h, -⟩ <;> simp [h]
@[simp] theorem State.drainTest_overflow (s : State) (c : ChanId) : (s.drainTest c).1.overflow = s.overflow := by
  rcases s.drainTest_spec c with ⟨h, -⟩ | ⟨-, -, h, -⟩ <;> simp [h]
@[simp] theorem State.drainTest_droppedEvents (s : State) (c : ChanId) : (s.drainTest c).1.droppedEvents = s.droppedEvents := by
  rcases s.drainTest_spec c with ⟨h, -⟩ | ⟨-, -, h, -⟩ <;> simp [h]
@[simp] theorem State.drainTest_stray (s : State) (c : ChanId) : (s.drainTest c).1.stray = s.stray := by
  rcases s.drainTest_spec c with ⟨h, -⟩ | ⟨-, -, h, -⟩ <;> simp [h]
@[simp] theorem State.drainTest_refusedRequests (s : State) (c : ChanId) : (s.drainTest c).1.refusedRequests = s.refusedRequests := by
  rcases s.drainTest_spec c with ⟨h, -⟩ | ⟨-, -, h, -⟩ <;> simp [h]
@[simp] theorem State.drainTest_mgmt (s : State) (c : ChanId) : (s.drainTest c).1.mgmt = s.mgmt := by
  rcases s.drainTest_spec c with ⟨h, -⟩ | ⟨-, -, h, -⟩ <;> simp [h]
@[simp] theorem State.drainTest_resetting (s : State) (c : ChanId) : (s.drainTest c).1.resetting = s.resetting := by
  rcases s.drainTest_spec c with ⟨h, -⟩ | ⟨-, -, h, -⟩ <;> simp [h]
@[simp] theorem State.drainTest_usOut (s : State) (c : ChanId) : (s.drainTest c).1.usOut = s.usOut := by
  rcases s.drainTest_spec c with ⟨h, -⟩ | ⟨-, -, h, -⟩ <;> simp [h]
@[simp] theorem State.drainTest_dqOut (s : State) (c : ChanId) : (s.drainTest c).1.dqOut = s.dqOut := by
  rcases s.drainTest_spec c with ⟨h, -⟩ | ⟨-, -, h, -⟩ <;> simp [h]
@[simp] theorem State.drainTest_misoOut (s : State) (c : ChanId) : (s.drainTest c).1.misoOut = s.misoOut := by
  rcases s.drainTest_spec c with ⟨h, -⟩ | ⟨-, -, h, -⟩ <;> simp [h]
@[simp] theorem State.drainTest_choice (s : State) (c : ChanId) : (s.drainTest c).1.choice = s.choice := by
  rcases s.drainTest_spec c with ⟨h, -⟩ | ⟨-, -, h, -⟩ <;> simp [h]
@[simp] theorem State.entry_drainTest (s : State) (c : ChanId) (e : EntryId) :
    (s.drainTest c).1.entry e = s.entry e := State.entry_eq_of_table s (by simp) e

/-- The drain test touches no channel but for the tested one's life-cycle state. -/
theorem State.chan_drainTest (s : State) (c k : ChanId) :
    ((s.drainTest c).1.chan k).cfg = (s.chan k).cfg ∧ ((s.drainTest c).1.chan k).ctr = (s.chan k).ctr ∧
      ∃ st, ((s.drainTest c).1.chan k).rt = { (s.chan k).rt with state := st } ∧
        (st = (s.chan k).rt.state ∨ (k = c ∧ (s.chan c).rt.state = .draining ∧ st = .disabled)) := by
  rcases s.drainTest_spec c with ⟨h, -⟩ | ⟨hd, -, h, -⟩ <;> rw [h]
  · exact ⟨rfl, rfl, _, rfl, .inl rfl⟩
  · rw [State.chan_setChan]
    split
    · next e => subst e; exact ⟨rfl, rfl, _, rfl, .inr ⟨rfl, hd, rfl⟩⟩
    · exact ⟨rfl, rfl, _, rfl, .inl rfl⟩

/-! ## Record generation (R84 to R92) -/

/-- A generation consumes the sequence number and the pending flags; the record joins the queue, or is dropped and
counted. -/
theorem State.generate_spec (s : State) (c : ChanId) (kind : RecordKind) (cf : CondFlags) (np : Bool) (time : Word) :
    (s.records.length < 8 ∧ s.generate c kind cf np time =
      ({ s.setChan c { s.chan c with rt := (s.chan c).rt.afterRecord } with
          records := s.records ++ [buildRecord c (s.chan c) kind cf np time] }, [])) ∨
    (8 ≤ s.records.length ∧ s.generate c kind cf np time =
      (s.setChan c { s.chan c with rt := (s.chan c).rt.afterRecord, ctr := (s.chan c).ctr.bumpDropped },
       [⟨.recordDropped, some c, (s.chan c).rt.nextSeq⟩])) := by
  unfold State.generate
  dsimp only
  split
  · next h => exact .inl ⟨h, rfl⟩
  · next h =>
    refine .inr ⟨by simpa using h, ?_⟩
    simp [State.bumpCtr, buildRecord, State.setChan_setChan]

@[simp] theorem State.generate_pending (s : State) (c : ChanId) (kind : RecordKind) (cf : CondFlags) (np : Bool) (time : Word) :
    (s.generate c kind cf np time).1.pending = s.pending := by
  rcases s.generate_spec c kind cf np time with ⟨-, h⟩ | ⟨-, h⟩ <;> simp [h]
@[simp] theorem State.generate_rstAsserted (s : State) (c : ChanId) (kind : RecordKind) (cf : CondFlags) (np : Bool) (time : Word) :
    (s.generate c kind cf np time).1.rstAsserted = s.rstAsserted := by
  rcases s.generate_spec c kind cf np time with ⟨-, h⟩ | ⟨-, h⟩ <;> simp [h]
@[simp] theorem State.generate_csLow (s : State) (c : ChanId) (kind : RecordKind) (cf : CondFlags) (np : Bool) (time : Word) :
    (s.generate c kind cf np time).1.csLow = s.csLow := by
  rcases s.generate_spec c kind cf np time with ⟨-, h⟩ | ⟨-, h⟩ <;> simp [h]
@[simp] theorem State.generate_tick (s : State) (c : ChanId) (kind : RecordKind) (cf : CondFlags) (np : Bool) (time : Word) :
    (s.generate c kind cf np time).1.tick = s.tick := by
  rcases s.generate_spec c kind cf np time with ⟨-, h⟩ | ⟨-, h⟩ <;> simp [h]
@[simp] theorem State.generate_tickDiv (s : State) (c : ChanId) (kind : RecordKind) (cf : CondFlags) (np : Bool) (time : Word) :
    (s.generate c kind cf np time).1.tickDiv = s.tickDiv := by
  rcases s.generate_spec c kind cf np time with ⟨-, h⟩ | ⟨-, h⟩ <;> simp [h]
@[simp] theorem State.generate_tickLen (s : State) (c : ChanId) (kind : RecordKind) (cf : CondFlags) (np : Bool) (time : Word) :
    (s.generate c kind cf np time).1.tickLen = s.tickLen := by
  rcases s.generate_spec c kind cf np time with ⟨-, h⟩ | ⟨-, h⟩ <;> simp [h]
@[simp] theorem State.generate_descs (s : State) (c : ChanId) (kind : RecordKind) (cf : CondFlags) (np : Bool) (time : Word) :
    (s.generate c kind cf np time).1.descs = s.descs := by
  rcases s.generate_spec c kind cf np time with ⟨-, h⟩ | ⟨-, h⟩ <;> simp [h]
@[simp] theorem State.generate_intake (s : State) (c : ChanId) (kind : RecordKind) (cf : CondFlags) (np : Bool) (time : Word) :
    (s.generate c kind cf np time).1.intake = s.intake := by
  rcases s.generate_spec c kind cf np time with ⟨-, h⟩ | ⟨-, h⟩ <;> simp [h]
@[simp] theorem State.generate_forward (s : State) (c : ChanId) (kind : RecordKind) (cf : CondFlags) (np : Bool) (time : Word) :
    (s.generate c kind cf np time).1.forward = s.forward := by
  rcases s.generate_spec c kind cf np time with ⟨-, h⟩ | ⟨-, h⟩ <;> simp [h]
@[simp] theorem State.generate_hold (s : State) (c : ChanId) (kind : RecordKind) (cf : CondFlags) (np : Bool) (time : Word) :
    (s.generate c kind cf np time).1.hold = s.hold := by
  rcases s.generate_spec c kind cf np time with ⟨-, h⟩ | ⟨-, h⟩ <;> simp [h]
@[simp] theorem State.generate_outstanding (s : State) (c : ChanId) (kind : RecordKind) (cf : CondFlags) (np : Bool) (time : Word) :
    (s.generate c kind cf np time).1.outstanding = s.outstanding := by
  rcases s.generate_spec c kind cf np time with ⟨-, h⟩ | ⟨-, h⟩ <;> simp [h]
@[simp] theorem State.generate_table (s : State) (c : ChanId) (kind : RecordKind) (cf : CondFlags) (np : Bool) (time : Word) :
    (s.generate c kind cf np time).1.table = s.table := by
  rcases s.generate_spec c kind cf np time with ⟨-, h⟩ | ⟨-, h⟩ <;> simp [h]
@[simp] theorem State.generate_sendOrder (s : State) (c : ChanId) (kind : RecordKind) (cf : CondFlags) (np : Bool) (time : Word) :
    (s.generate c kind cf np time).1.sendOrder = s.sendOrder := by
  rcases s.generate_spec c kind cf np time with ⟨-, h⟩ | ⟨-, h⟩ <;> simp [h]
@[simp] theorem State.generate_offeredInit (s : State) (c : ChanId) (kind : RecordKind) (cf : CondFlags) (np : Bool) (time : Word) :
    (s.generate c kind cf np time).1.offeredInit = s.offeredInit := by
  rcases s.generate_spec c kind cf np time with ⟨-, h⟩ | ⟨-, h⟩ <;> simp [h]
@[simp] theorem State.generate_lastWinner (s : State) (c : ChanId) (kind : RecordKind) (cf : CondFlags) (np : Bool) (time : Word) :
    (s.generate c kind cf np time).1.lastWinner = s.lastWinner := by
  rcases s.generate_spec c kind cf np time with ⟨-, h⟩ | ⟨-, h⟩ <;> simp [h]
@[simp] theorem State.generate_partInitiator (s : State) (c : ChanId) (kind : RecordKind) (cf : CondFlags) (np : Bool) (time : Word) :
    (s.generate c kind cf np time).1.partInitiator = s.partInitiator := by
  rcases s.generate_spec c kind cf np time with ⟨-, h⟩ | ⟨-, h⟩ <;> simp [h]
@[simp] theorem State.generate_respLimit (s : State) (c : ChanId) (kind : RecordKind) (cf : CondFlags) (np : Bool) (time : Word) :
    (s.generate c kind cf np time).1.respLimit = s.respLimit := by
  rcases s.generate_spec c kind cf np time with ⟨-, h⟩ | ⟨-, h⟩ <;> simp [h]
@[simp] theorem State.generate_eventMask (s : State) (c : ChanId) (kind : RecordKind) (cf : CondFlags) (np : Bool) (time : Word) :
    (s.generate c kind cf np time).1.eventMask = s.eventMask := by
  rcases s.generate_spec c kind cf np time with ⟨-, h⟩ | ⟨-, h⟩ <;> simp [h]
@[simp] theorem State.generate_events (s : State) (c : ChanId) (kind : RecordKind) (cf : CondFlags) (np : Bool) (time : Word) :
    (s.generate c kind cf np time).1.events = s.events := by
  rcases s.generate_spec c kind cf np time with ⟨-, h⟩ | ⟨-, h⟩ <;> simp [h]
@[simp] theorem State.generate_overflow (s : State) (c : ChanId) (kind : RecordKind) (cf : CondFlags) (np : Bool) (time : Word) :
    (s.generate c kind cf np time).1.overflow = s.overflow := by
  rcases s.generate_spec c kind cf np time with ⟨-, h⟩ | ⟨-, h⟩ <;> simp [h]
@[simp] theorem State.generate_droppedEvents (s : State) (c : ChanId) (kind : RecordKind) (cf : CondFlags) (np : Bool) (time : Word) :
    (s.generate c kind cf np time).1.droppedEvents = s.droppedEvents := by
  rcases s.generate_spec c kind cf np time with ⟨-, h⟩ | ⟨-, h⟩ <;> simp [h]
@[simp] theorem State.generate_stray (s : State) (c : ChanId) (kind : RecordKind) (cf : CondFlags) (np : Bool) (time : Word) :
    (s.generate c kind cf np time).1.stray = s.stray := by
  rcases s.generate_spec c kind cf np time with ⟨-, h⟩ | ⟨-, h⟩ <;> simp [h]
@[simp] theorem State.generate_refusedRequests (s : State) (c : ChanId) (kind : RecordKind) (cf : CondFlags) (np : Bool) (time : Word) :
    (s.generate c kind cf np time).1.refusedRequests = s.refusedRequests := by
  rcases s.generate_spec c kind cf np time with ⟨-, h⟩ | ⟨-, h⟩ <;> simp [h]
@[simp] theorem State.generate_mgmt (s : State) (c : ChanId) (kind : RecordKind) (cf : CondFlags) (np : Bool) (time : Word) :
    (s.generate c kind cf np time).1.mgmt = s.mgmt := by
  rcases s.generate_spec c kind cf np time with ⟨-, h⟩ | ⟨-, h⟩ <;> simp [h]
@[simp] theorem State.generate_resetting (s : State) (c : ChanId) (kind : RecordKind) (cf : CondFlags) (np : Bool) (time : Word) :
    (s.generate c kind cf np time).1.resetting = s.resetting := by
  rcases s.generate_spec c kind cf np time with ⟨-, h⟩ | ⟨-, h⟩ <;> simp [h]
@[simp] theorem State.generate_usOut (s : State) (c : ChanId) (kind : RecordKind) (cf : CondFlags) (np : Bool) (time : Word) :
    (s.generate c kind cf np time).1.usOut = s.usOut := by
  rcases s.generate_spec c kind cf np time with ⟨-, h⟩ | ⟨-, h⟩ <;> simp [h]
@[simp] theorem State.generate_dqOut (s : State) (c : ChanId) (kind : RecordKind) (cf : CondFlags) (np : Bool) (time : Word) :
    (s.generate c kind cf np time).1.dqOut = s.dqOut := by
  rcases s.generate_spec c kind cf np time with ⟨-, h⟩ | ⟨-, h⟩ <;> simp [h]
@[simp] theorem State.generate_misoOut (s : State) (c : ChanId) (kind : RecordKind) (cf : CondFlags) (np : Bool) (time : Word) :
    (s.generate c kind cf np time).1.misoOut = s.misoOut := by
  rcases s.generate_spec c kind cf np time with ⟨-, h⟩ | ⟨-, h⟩ <;> simp [h]
@[simp] theorem State.generate_choice (s : State) (c : ChanId) (kind : RecordKind) (cf : CondFlags) (np : Bool) (time : Word) :
    (s.generate c kind cf np time).1.choice = s.choice := by
  rcases s.generate_spec c kind cf np time with ⟨-, h⟩ | ⟨-, h⟩ <;> simp [h]
@[simp] theorem State.entry_generate (s : State) (c : ChanId) (kind : RecordKind) (cf : CondFlags) (np : Bool) (time : Word)
    (e : EntryId) : (s.generate c kind cf np time).1.entry e = s.entry e := State.entry_eq_of_table s (by simp) e

/-! ## Tracking Table -/

theorem State.entry_take (s : State) (e f : EntryId) (t : Transaction) :
    (s.take e t).entry f = if e = f then ⟨(s.entry e).gen, some t⟩ else s.entry f := by
  unfold State.take; rw [State.entry_setEntry]

theorem State.entry_freeEntry (s : State) (e f : EntryId) :
    (s.freeEntry e).entry f = if e = f then (s.entry e).freed else s.entry f := by
  unfold State.freeEntry; rw [State.entry_setEntry]

theorem State.mem_freeEntries (s : State) (e : EntryId) : e ∈ s.freeEntries ↔ (s.entry e).tx = none := by
  simp [State.freeEntries]

theorem State.mem_inUse (s : State) (e : EntryId) : e ∈ s.inUse ↔ (s.entry e).tx.isSome = true := by
  simp [State.inUse]

/-- The tag of an entry names that entry at that generation (R125). -/
theorem tagTarget_downTag (e : EntryId) (g : BitVec 3) : tagTarget (downTag e g) = some (e, g) := by
  have he := e.isLt
  have hg := g.isLt
  have h1 : (downTag e g).toNat = e.val + 24 * g.toNat := by
    simp [downTag]; omega
  unfold tagTarget
  rw [if_pos (by omega)]
  have h2 : (downTag e g).toNat % 24 = e.val := by omega
  have h3 : (downTag e g).toNat / 24 = g.toNat := by omega
  simp only [h2, h3, Fin.eta, BitVec.ofNat_toNat, BitVec.setWidth_eq]

/-! ## Link signals (R171, R172) -/

/-- The byte-enable lanes of a request, by bits. -/
theorem enableLanes_getLsbD (kind : ReqKind) (len : BitVec 3) (be : Half) (k : Nat) :
    (enableLanes kind len be).getLsbD k = (decide (kind = .write) && decide (k < 4 * len.toNat) && be.getLsbD k) := by
  cases kind
  · simp [enableLanes]
  · simp only [enableLanes, BitVec.getLsbD_and, BitVec.getLsbD_ofNat, Nat.testBit_two_pow_sub_one]
    by_cases hk : k < 16
    · simp [hk, Bool.and_comm]
    · simp [BitVec.getLsbD_of_ge be k (by omega)]

/-- The data lanes of a request, by bits. -/
theorem dataLanes_getLsbD (kind : ReqKind) (len : BitVec 3) (data : BitVec 128) (k : Nat) :
    (dataLanes kind len data).getLsbD k = (decide (kind = .write) && decide (k < 32 * len.toNat) && data.getLsbD k) := by
  cases kind
  · simp [dataLanes]
  · simp only [dataLanes, BitVec.getLsbD_and, BitVec.getLsbD_ofNat, Nat.testBit_two_pow_sub_one]
    by_cases hk : k < 128
    · simp [hk, Bool.and_comm]
    · simp [BitVec.getLsbD_of_ge data k (by omega)]

/-- Packed words keep their places: word k is at bits 32k to 32k + 31. -/
theorem packWords_word (ws : List Word) (k : Nat) : packWords ws / 2 ^ (32 * k) % 2 ^ 32 = (ws.getD k 0).toNat := by
  induction ws generalizing k with
  | nil => simp [packWords]
  | cons w ws ih =>
    have hw := w.isLt
    cases k with
    | zero => simpa [packWords] using hw
    | succ k =>
      have h : 2 ^ (32 * (k + 1)) = 2 ^ 32 * 2 ^ (32 * k) := by rw [Nat.mul_succ, Nat.add_comm, Nat.pow_add]
      rw [packWords, h, ← Nat.div_div_eq_div_mul, Nat.add_mul_div_left _ _ (Nat.two_pow_pos 32),
        Nat.div_eq_of_lt hw, Nat.zero_add, ih]
      rfl

@[simp] theorem State.usTransfers_respond (s : State) (r : UpResponse) :
    (s.respond r).usTransfers = s.usTransfers ++ [r.transfer] := by simp [State.usTransfers, State.respond]

/-! ## Commands -/

/-- A row is not taken, or is answered RESETTING, or takes its command by its own rule (R155, R157). -/
theorem State.row_spec (s : State) (cmd : Cmd) (args : List Byte) (rule : State → Answer) :
    (s.atLastByte cmd args = false ∧ s.row cmd args rule = s) ∨
    (s.atLastByte cmd args = true ∧ s.resetting = true ∧ cmd.heldByReset = true ∧
      s.row cmd args rule = s.answer cmd .resetting []) ∨
    (s.atLastByte cmd args = true ∧ (s.resetting && cmd.heldByReset) = false ∧
      s.row cmd args rule = (rule s).state.answer cmd (rule s).status (rule s).data) := by
  unfold State.row State.takeCommand
  split
  · next h =>
    split
    · next h2 =>
      simp only [Bool.and_eq_true] at h2
      exact .inr (.inl ⟨h, h2.1, h2.2, rfl⟩)
    · next h2 => exact .inr (.inr ⟨h, by simpa using h2, rfl⟩)
  · next h => exact .inl ⟨by simpa using h, rfl⟩

/-- A channel argument above 11 is answered BAD_ARGUMENT; any other is taken by the rule (R157). -/
theorem withChannel_spec (b : Byte) (rule : ChanId → State → Answer) (s : State) :
    (11 < b.toNat ∧ withChannel b rule s = ⟨s, .badArgument, []⟩) ∨
    (∃ h : b.toNat < 12, withChannel b rule s = rule ⟨b.toNat, h⟩ s) := by
  unfold withChannel channelOf
  by_cases h : b.toNat < 12
  · exact .inr ⟨h, by simp [h]⟩
  · exact .inl ⟨by omega, by simp [h]⟩

/-- A command code names the command it is the code of (R174). -/
theorem Cmd.ofCode_code (c : Cmd) : Cmd.ofCode c.code = some c := by
  cases c <;> rfl

end Sys2Proof.Machine
end

