-- ==== Sys2Proof/Laws/Bytes.lean ====
section
/-! SUPPORT. The bytes of the SPI port: what a command's row answers, the bytes of a value, the command codes. -/

namespace Sys2Proof.Machine

/-- A row whose last byte has arrived, the part not RESETTING: the command's own rule decides. -/
theorem State.row_taken {s : State} {cmd : Cmd} {args : List Byte} (rule : State → Answer)
    (h : s.atLastByte cmd args = true) (hr : s.resetting = false) :
    s.row cmd args rule = (rule s).state.answer cmd (rule s).status (rule s).data := by
  rcases s.row_spec cmd args rule with ⟨h', -⟩ | ⟨-, h', -⟩ | ⟨-, -, h'⟩
  · rw [h] at h'; exact absurd h' (by decide)
  · rw [hr] at h'; exact absurd h' (by decide)
  · exact h'

/-- A row whose last byte has arrived while the part is RESETTING. -/
theorem State.row_resetting {s : State} {cmd : Cmd} {args : List Byte} (rule : State → Answer)
    (h : s.atLastByte cmd args = true) (hr : s.resetting = true) (hc : cmd.heldByReset = true) :
    s.row cmd args rule = s.answer cmd .resetting [] := by
  unfold State.row State.takeCommand
  rw [if_pos h, if_pos (by rw [hr, hc]; rfl)]

/-- A channel byte below 12 names the channel. -/
theorem channelOf_ofNat (c : ChanId) : channelOf (BitVec.ofNat 8 c.val) = some c := by
  revert c; decide

/-- The only bytes that name commands are their codes. -/
theorem Cmd.code_of_ofCode {b : Byte} {cmd : Cmd} (h : Cmd.ofCode b = some cmd) : b = cmd.code := by
  revert h; revert cmd; revert b; decide

/-- A byte that is no command's code names no command. -/
theorem Cmd.ofCode_eq_none {b : Byte} (h : ∀ cmd : Cmd, b ≠ cmd.code) : Cmd.ofCode b = none := by
  cases hh : Cmd.ofCode b with
  | none => rfl
  | some c => exact absurd (Cmd.code_of_ofCode hh) (h c)

/-- The four bytes of a word. -/
theorem leBytes_word (v : Word) : leBytes 4 v.toNat =
    [v.setWidth 8, (v >>> 8).setWidth 8, (v >>> 16).setWidth 8, (v >>> 24).setWidth 8] := by
  simp only [leBytes, List.range_succ, List.range_zero, List.nil_append, List.cons_append, List.map_cons, List.map_nil]
  congr 1
  · apply BitVec.eq_of_toNat_eq; simp
  congr 1
  · apply BitVec.eq_of_toNat_eq; simp [Nat.shiftRight_eq_div_pow]
  congr 1
  · apply BitVec.eq_of_toNat_eq; simp [Nat.shiftRight_eq_div_pow]
  congr 1
  · apply BitVec.eq_of_toNat_eq; simp [Nat.shiftRight_eq_div_pow]

/-- The two bytes of a half word. -/
theorem leBytes_half (v : Half) : leBytes 2 v.toNat = [v.setWidth 8, (v >>> 8).setWidth 8] := by
  simp only [leBytes, List.range_succ, List.range_zero, List.nil_append, List.cons_append, List.map_cons, List.map_nil]
  congr 1
  · apply BitVec.eq_of_toNat_eq; simp
  congr 1
  · apply BitVec.eq_of_toNat_eq; simp [Nat.shiftRight_eq_div_pow]

/-- A word is read back from its bytes. -/
theorem leNat_leBytes (n x : Nat) : leNat (leBytes n x) = x % 256 ^ n := by
  induction n generalizing x with
  | zero => simp [leBytes, leNat, Nat.mod_one]
  | succ n ih =>
    have hcons : leBytes (n + 1) x = BitVec.ofNat 8 x :: leBytes n (x / 256) := by
      simp only [leBytes, List.range_succ_eq_map, List.map_cons, List.map_map, Nat.pow_zero, Nat.div_one]
      congr 1
      apply List.map_congr_left
      intro i _
      simp [Function.comp, Nat.pow_succ', Nat.div_div_eq_div_mul]
    rw [hcons, leNat, ih]
    have hp : 256 ^ (n + 1) = 256 * 256 ^ n := Nat.pow_succ'
    rw [hp, Nat.mod_mul]
    simp

end Sys2Proof.Machine
end

