-- ==== Sys2Proof/Laws/Exec.lean ====
section
/-! SUPPORT. What every command has in common, and the examination of the head of the Intake Queue, the discard of a channel's
records and the intake write, each said once. -/

namespace Sys2Proof.Machine

/-- Every command answers a next state: nothing in the spec stops the part. -/
theorem exec_next (i : Instr) (s : State) : ∃ t, exec i s = .next t := by
  cases i <;> exact ⟨_, rfl⟩

/-- A counter of 16 bits after an increment, by value (R150). -/
theorem satInc_half (x : Half) : satInc x = BitVec.ofNat 16 (min 65535 (x.toNat + 1)) := by
  apply BitVec.eq_of_toNat_eq
  rw [satInc_toNat, BitVec.toNat_ofNat]
  omega

/-- An examination of the head, outside pin reset and with no move of a RELEASED read due before it (R107, R101). -/
theorem execClassification_head {s : State} {h : IntakeEntry} {rest : List IntakeEntry} (hr : s.rstAsserted = false)
    (hm : s.moveDue = false) (hi : s.intake = h :: rest) : exec .classification s =
      .next ((State.complete { s with intake := rest } h (s.classify h.req)).getD s) := by
  simp only [exec, execClassification, hi]
  rw [if_neg (by simp [hr, hm])]

/-- While a RELEASED read can move, no examination takes the head (R101). -/
theorem execClassification_moveDue {s : State} (hm : s.moveDue = true) : exec .classification s = .next s := by
  simp only [exec, execClassification, hm, Bool.or_true, if_true]
  split <;> rfl

/-- A move is due: a RELEASED read waits and the Forward Queue has a free entry (R101, R120). -/
theorem State.moveDue_iff (s : State) :
    s.moveDue = true ↔ (∃ h ∈ s.hold, h.cond = .released) ∧ s.forward.length < 8 := by
  simp [State.moveDue, State.releasedWaiting, Config.forwardCap]

/-- A head that finds room in the Forward Queue finds no move due. -/
theorem State.moveDue_of_forwardRoom {s : State} (h : s.forwardRoom = true) : s.moveDue = false := by
  simp only [State.forwardRoom, Bool.and_eq_true, Bool.not_eq_true'] at h
  simp [State.moveDue, h.2]

/-- Room in the Forward Queue for the head: a free entry, and no RELEASED read waiting (R107, R120). -/
theorem State.forwardRoom_iff (s : State) :
    s.forwardRoom = true ↔ s.forward.length < 8 ∧ ∀ h ∈ s.hold, h.cond = .held := by
  simp only [State.forwardRoom, State.releasedWaiting, Config.forwardCap, Bool.and_eq_true, decide_eq_true_eq,
    Bool.not_eq_true', List.any_eq_false, beq_iff_eq]
  refine and_congr_right fun _ => forall₂_congr fun h _ => ?_
  cases h.cond <;> simp

/-- The reservations a list of records held end one after the other: a read of the channel is released when its slot is named
by one of them and by no record that is still queued or outstanding (R99, R101). -/
theorem State.endReservations (c : ChanId) (gone : List Record) (s : State) :
    gone.foldl (fun t r => t.endReservation c r.slot) s =
      { s with
        hold := s.hold.map fun h =>
          if h.chan == c && gone.any (fun r => r.slot == h.slot) && !s.reserved c h.slot then
            { h with cond := .released }
          else h } := by
  induction gone generalizing s with
  | nil => simp
  | cons r rs ih =>
    rw [List.foldl_cons, ih]
    unfold State.endReservation
    split
    · next hr =>
      congr 1
      refine List.map_congr_left fun h _ => ?_
      by_cases hc : h.chan = c <;> by_cases hs : r.slot = h.slot <;> simp [hc, hs]
      rw [hs] at hr
      simp [hr]
    · next hr =>
      simp only [List.map_map]
      congr 1
      refine List.map_congr_left fun h _ => ?_
      have hres (x : Nat) : State.reserved { s with hold := s.hold.map (HoldEntry.release c r.slot) } c x
          = s.reserved c x := rfl
      simp only [Function.comp, HoldEntry.release_chan, HoldEntry.release_slot, hres]
      simp only [HoldEntry.release]
      by_cases hc : h.chan = c <;> by_cases hs : h.slot = r.slot <;> simp [hc, hs]
      · simp at hr
        simp [hr]
      · have : ¬ r.slot = h.slot := fun e => hs e.symm
        simp [this]

/-- An intake write changes the channel table, the Record Queue and the Event Unit alone (R28, R38, R92). -/
theorem State.intakeWrite_frame (s : State) (c : ChanId) (r : Request) (stamp : Word) :
    let t := s.intakeWrite c r stamp
    t = { s with chans := t.chans, records := t.records, events := t.events, overflow := t.overflow,
                 droppedEvents := t.droppedEvents, choice := t.choice } := by
  intro t
  have h (x : State) (hx : x.usOut = s.usOut ∧ x.pending = s.pending ∧ x.rstAsserted = s.rstAsserted ∧ x.csLow = s.csLow ∧
      x.tick = s.tick ∧ x.tickDiv = s.tickDiv ∧ x.tickLen = s.tickLen ∧ x.descs = s.descs ∧ x.intake = s.intake ∧
      x.forward = s.forward ∧ x.hold = s.hold ∧ x.outstanding = s.outstanding ∧ x.table = s.table ∧
      x.sendOrder = s.sendOrder ∧ x.offeredInit = s.offeredInit ∧ x.lastWinner = s.lastWinner ∧
      x.partInitiator = s.partInitiator ∧ x.respLimit = s.respLimit ∧ x.eventMask = s.eventMask ∧ x.stray = s.stray ∧
      x.refusedRequests = s.refusedRequests ∧ x.mgmt = s.mgmt ∧ x.resetting = s.resetting ∧ x.dqOut = s.dqOut ∧
      x.misoOut = s.misoOut) :
      x = { s with chans := x.chans, records := x.records, events := x.events, overflow := x.overflow,
                   droppedEvents := x.droppedEvents, choice := x.choice } := by
    cases x; simp_all
  refine h t ?_
  simp only [t, State.intakeWrite]
  split
  · split <;> simp [State.takeSample]
  · simp

end Sys2Proof.Machine
end

