-- ==== Sys2Proof/WellFormed.lean ====
section
/-! DEFINITION. Which commands are the happening their row names. The operand types carry every width of the spec; what is
left to check is that a row's byte or selector is one the row speaks of. -/

namespace Sys2Proof

/-- A BAD_COMMAND byte names no command (R154); a SET_ITEM row's selector names no item (R159); a SET_CHANNEL_ITEM or
SET_DESCRIPTOR_ITEM selector names an item of its scope (R2, R24, R158). -/
def Instr.wellFormed : Instr → Bool
  | .badCommand code => (Machine.Cmd.ofCode code).isNone
  | .setItem scope index item _ => !Machine.namesItem scope index item
  | .setChannelItem channel item _ => Machine.namesItem 1 channel item
  | .setDescriptorItem descriptor item _ => Machine.namesItem 2 descriptor item
  | .tick | .pinReset | .pinResetRelease | .csFall | .csRise | .getItem .. => true
  | .setTickDiv _ | .setPartInitiator _ | .setRespLimit _ | .setEventMask _ => true
  | .enableChannel _ | .disableChannel _ | .getChannelState _ | .getCounters _ | .clearCounters _ => true
  | .popEvent | .clearEvents | .getStatus | .getTime | .softReset | .softResetCompletion => true
  | .takeRequest .. | .classification | .releasedReadMove | .deadlineReached _ => true
  | .grant | .issue | .response .. | .timeout _ | .spiByte _ => true

end Sys2Proof
end

