-- ==== Sys2Proof/Tests/Slice0.lean ====
section
/-! SUPPORT. The model's own tests: ill-formed commands that WellFormed refuses, numbers the spec works out, and for every
statement with hypotheses a concrete state and operands that meet them, clause by clause. -/

namespace Sys2Proof.Tests

open Sys2Proof Sys2Proof.Machine

/-! ## Small states -/

/-- The state after a command; every command answers a next state. -/
def after (i : Instr) (s : State) : State :=
  match exec i s with
  | .next t => t
  | .fault _ => s
  | .refused _ => s

/-- The part before the last byte of a command arrives. -/
def before (cmd : Cmd) (args : List Byte) (s : State) : State :=
  { s with
    csLow := true
    mgmt := if args.isEmpty then ⟨.command, 0, [], []⟩ else ⟨.arguments, cmd.code, args.dropLast, []⟩ }

/-- A descriptor of one word that is one POSITION field of 32 bits. -/
def posDesc : Descriptor :=
  { Descriptor.reset with fields := #v[some ⟨.position, 0, 0, 32, .binary⟩, none, none, none] }

/-- Windows apart and aligned: intake at 0x1000, output area at 0x2000 with two slots. -/
def cfgA : ChanConfig := { ChanConfig.reset with intakeBase := 0x1000, outputBase := 0x2000, outputDepth := 2 }

/-- A channel out of DISABLED, one miss below its loss. -/
def chanA (st : LifeCycle) : Channel :=
  { cfg := cfgA
    rt := { Runtime.cleared 12500 with
      state := st, width := 32, pLast := some 0, lastArrival := some 0
      deadline := if st = .waiting ∨ st = .running then some 18750 else none }
    ctr := .zero }

/-- Channel 0 as `ch`, descriptor 0 as `posDesc`, everything else at reset. -/
def withA (ch : Channel) : State :=
  { State.reset with chans := State.reset.chans.set 0 ch, descs := State.reset.descs.set 0 posDesc }

/-- Channel 0 in a life-cycle state. -/
def inState (st : LifeCycle) : State := withA (chanA st)

/-- A one-word request. -/
def req (kind : ReqKind) (addr : Word) : Request := ⟨kind, addr, 1, if kind = .write then 15 else 0, 2, 7, 0⟩

/-- A queued record of channel 0 for slot 0. -/
def rec0 : Record := ⟨0, 0, 0, Vector.replicate 8 0⟩

/-- An outstanding record of channel 0 for slot 0. -/
def out0 : OutRecord := ⟨0, 0, 0, .awaiting, .awaiting⟩

/-- A relayed read in a Tracking Table entry. -/
def fwdTx (ph : Phase) : Transaction := ⟨ph, false, .forward 2 7, .read, 0x4000, 2⟩

/-- The first half of the record of channel 0 in a Tracking Table entry. -/
def recTx : Transaction := ⟨.issued 0 1024, false, .record 0 0 .first, .write, 0x2000, 4⟩

/-! ## WellFormed: one ill-formed command for each check -/

theorem test_wf_bad_command_byte : Instr.wellFormed (.badCommand 0x30) = false ∧ Instr.wellFormed (.badCommand 0x0F) = true := by
  decide

theorem test_wf_set_item_selector : Instr.wellFormed (.setItem 1 11 14 0) = false ∧ Instr.wellFormed (.setItem 1 12 14 0) = true := by
  decide

theorem test_wf_channel_selector :
    Instr.wellFormed (.setChannelItem 11 15 0) = false ∧ Instr.wellFormed (.setChannelItem 11 14 0) = true := by decide

theorem test_wf_descriptor_selector :
    Instr.wellFormed (.setDescriptorItem 16 0 0) = false ∧ Instr.wellFormed (.setDescriptorItem 15 6 0) = true := by decide

/-! ## Numbers the spec works out -/

/-- R177's worked SCHEDULE: length 3, steps (6, POSITION), (7, AUX), (8, AUX). -/
theorem test_schedule_word :
    packSchedule ⟨3, #v[⟨6, .position⟩, ⟨7, .aux⟩, ⟨8, .aux⟩, ⟨0, .position⟩]⟩ = 0x030185C6
      ∧ unpackSchedule 0x030185C6 = some ⟨3, #v[⟨6, .position⟩, ⟨7, .aux⟩, ⟨8, .aux⟩, ⟨0, .position⟩]⟩ := by decide

/-- R177's bounds: a length of 0 or 5 and a set zero bit are out of range; bits of a step above the length are dropped. -/
theorem test_schedule_bounds : unpackSchedule 0 = none ∧ unpackSchedule 0x05000000 = none ∧ unpackSchedule 0x01000020 = none
    ∧ unpackSchedule 0x010003C0 = some ⟨1, Vector.replicate 4 ⟨0, .position⟩⟩ := by decide

/-- 10.4's worked FIELD words: width 0 and a set zero bit are refused; an absent slot keeps no part. -/
theorem test_field_words : unpackField 0x00000009 = none ∧ unpackField 0x00A00009 = none
    ∧ unpackField 0x001A0C11 = some (some ⟨.position, 1, 12, 26, .binary⟩)
    ∧ unpackField 0x00080009 = some (some ⟨.tag, 0, 0, 8, .binary⟩) ∧ unpackField 0x00000000 = some none := by decide

/-- R27: a 3-bit GRAY field holding 110 decodes to 100. -/
theorem test_gray : grayDecode 3 6 = 4 := by decide

/-- R26: a field that starts at bit 28 of word 0 and is 8 bits wide takes its high four bits from word 1. -/
theorem test_field_spans_words :
    rawField #v[0xA0000000, 0x0000000B, 0, 0] ⟨.position, 0, 28, 8, .binary⟩ = 0xBA := by decide

/-- R44: TURNS 3 above a 20-bit POSITION 0x12345 gives 0x312345. -/
theorem test_frame_position : Sample.framePosition ⟨0x12345, 20, some (3, 12, .binary), 0⟩ = 0x312345 := by decide

/-- R45: W = 28, TURNS 0xFFF SIGNED, POSITION 0x0100: EP is −65,280. -/
theorem test_first_position_signed : (firstPosition 28 0xFFF0100 true).toInt = -65280 := by decide

/-- R46: with W = 1, d is 0 when the bit repeats and −1 when it changes. -/
theorem test_unwrap_one_bit : unwrapDelta 1 1 1 = 0 ∧ unwrapDelta 1 1 0 = -1 ∧ unwrapDelta 1 0 1 = -1 := by decide

/-- R125: entry 5 places tag 5 at generation 0 and 77 at generation 3; tag 192 names no entry. -/
theorem test_tags : downTag 5 0 = 5 ∧ downTag 5 3 = 77 ∧ tagTarget 77 = some (5, 3) ∧ tagTarget 191 = some (23, 7)
    ∧ tagTarget 192 = none := by decide

/-- R66: a time is reached up to 2^31 − 1 ticks after it, across the wrap. -/
theorem test_reached : reached 5 5 = true ∧ reached 3 0xFFFFFFF0 = true ∧ reached 4 5 = false ∧ reached 0x80000000 0 = false := by
  decide

/-- R85: V saturates to signed 32 bits. -/
theorem test_saturate : saturate32 2147483648 = 0x7FFFFFFF ∧ saturate32 (-2147483649) = 0x80000000 ∧ saturate32 (-1) = 0xFFFFFFFF := by
  decide

/-- R173's worked word 0: SYNTH, channel 9, number 300, FAULT_SEEN and STATUS_VALID. -/
theorem test_record_word0 :
    recordWord0 9 300 .synth .none ⟨false, true, false, false⟩ false true false = 0x9441012C := by decide

/-- R71: a mean below 16 becomes 16; only the newest AVG_DEPTH intervals count. -/
theorem test_base : baseOf cfgA [15] = 16 ∧ baseOf cfgA [999, 20, 21, 22, 24] = 21 ∧ baseOf cfgA [] = 12500 := by decide

/-- R109: a request of four words must start a 16-byte block; a length of 0 breaks the form rule. -/
theorem test_form : breaksForm ⟨.write, 0x1000, 4, 0, 0, 0, 0⟩ = false ∧ breaksForm ⟨.write, 0x1004, 4, 0, 0, 0, 0⟩ = true
    ∧ breaksForm ⟨.read, 0x1000, 0, 0, 0, 0, 0⟩ = true ∧ breaksForm ⟨.read, 0x1002, 1, 0, 0, 0, 0⟩ = true := by decide

/-- R131: the powers of two from 2^10 to 2^20. -/
theorem test_resp_limits : respLimits = (List.range 11).map fun k => 2 ^ (10 + k) := by decide

/-! ## Witnesses: time, pins and the SPI frame -/

theorem test_witness_StepTakesFrontCommand :
    ({ State.reset with pending := [.tick] } : State).pending = .tick :: [] ∧ State.reset.pending = [] := by decide

theorem test_witness_TimeMovesByTickAlone :
    State.reset.rstAsserted = false ∧ (after .pinReset State.reset).rstAsserted = true
      ∧ exec .grant State.reset = .next (after .grant State.reset)
      ∧ Instr.grant ≠ .tick ∧ Instr.grant ≠ .pinReset ∧ Instr.grant ≠ .pinResetRelease :=
  ⟨rfl, rfl, rfl, by decide, by decide, by decide⟩

/-- The counter wraps (R64) and a new TICK_DIV sets the length of the next tick. -/
theorem test_tick_wraps :
    (after .tick { State.reset with tick := 0xFFFFFFFF, tickDiv := 5 }).tick = 0
      ∧ (after .tick { State.reset with tickDiv := 5 }).tickLen = 5 := by decide

theorem test_witness_PinResetHoldsResetState : (after .pinReset (inState .running)).rstAsserted = true := by decide

theorem test_witness_SpiFrameTable :
    (State.reset.csLow = false ∧ State.reset.rstAsserted = false ∧ State.reset.mgmt.frame = .idle)
      ∧ ((after .pinReset State.reset).csLow = false ∧ (after .pinReset State.reset).rstAsserted = true)
      ∧ (after .csFall State.reset).csLow = true
      ∧ ((after .csFall State.reset).mgmt.frame = .command ∧ (0x10 : Byte) = Cmd.enable.code ∧ 0 < Cmd.enable.argBytes)
      ∧ ((before .getItem [1, 0, 0] State.reset).mgmt.frame = .arguments
          ∧ (before .getItem [1, 0] State.reset).mgmt.cmd = Cmd.getItem.code
          ∧ (before .getItem [1, 0] State.reset).mgmt.args.length + 1 < Cmd.getItem.argBytes)
      ∧ (after (.spiByte 0) { State.reset with csLow := true, mgmt := ⟨.response, 0x3C, [], [0]⟩ }).mgmt.frame = .trailing := by
  decide

theorem test_witness_LastByteTakesTheCommand :
    ((before .popEvent [] State.reset).rstAsserted = false ∧ (before .popEvent [] State.reset).mgmt.frame = .command)
      ∧ (∀ cmd : Cmd, (0x03 : Byte) ≠ cmd.code)
      ∧ ((before .enable [0] State.reset).mgmt.frame = .arguments ∧ (before .enable [0] State.reset).mgmt.args = []
          ∧ (before .enable [0] State.reset).mgmt.cmd = 0x10 ∧ (before .disable [0] State.reset).mgmt.cmd = 0x11
          ∧ (before .getState [0] State.reset).mgmt.cmd = 0x12 ∧ (before .getCounters [0] State.reset).mgmt.cmd = 0x13
          ∧ (before .clearCounters [0] State.reset).mgmt.cmd = 0x14)
      ∧ ((before .getItem [1, 0, 0] State.reset).mgmt.cmd = 0x01 ∧ (before .getItem [1, 0, 0] State.reset).mgmt.args = [1, 0])
      ∧ ((before .setItem [0, 0, 3, 1, 2, 3, 4] State.reset).mgmt.cmd = 0x02
          ∧ (before .setItem [0, 0, 3, 1, 2, 3, 4] State.reset).mgmt.args = [0, 0, 3, 1, 2, 3]) := by
  refine ⟨by decide, ?_, by decide, by decide, by decide⟩
  intro cmd
  cases cmd <;> decide

/-- A command over its bytes: SET_ITEM of RESP_LIMIT 0x00010000 + 0x400 is refused, of 0x400 accepted. -/
theorem test_spi_set_item :
    (after (.spiByte 0) (before .setItem [0, 0, 2, 0x00, 0x04, 0x01, 0] State.reset)).mgmt.resp = [0x02]
      ∧ (after (.spiByte 0) (before .setItem [0, 0, 2, 0x00, 0x04, 0x00, 0] State.reset)).respLimit = 1024 := by decide

theorem test_witness_ResponseShiftsOutInOrder :
    let s : State := { State.reset with
      csLow := true, mgmt := ⟨.response, 0x31, [], [0, 5]⟩, pending := [.spiByte 9, .spiByte 9, .tick] }
    s.rstAsserted = false ∧ s.mgmt.frame = .response ∧ s.mgmt.resp ≠ []
      ∧ ([9, 9] : List Byte).length = s.mgmt.resp.length ∧ s.pending = ([9, 9] : List Byte).map Instr.spiByte ++ [.tick] := by
  decide

theorem test_witness_CommonChecksRefuse :
    let r : State := { State.reset with resetting := true }
    ((before .popEvent [] r).rstAsserted = false ∧ (before .popEvent [] r).mgmt.frame = .command
        ∧ ∀ cmd : Cmd, (0xFF : Byte) ≠ cmd.code)
      ∧ (r.resetting = true ∧ (before .getItem [0, 0, 0] r).atLastByte .getItem [0, 0, 0] = true
          ∧ (before .setItem (setBytes 0 0 3 7) r).atLastByte .setItem (setBytes 0 0 3 7) = true
          ∧ (before .enable [0] r).atLastByte .enable [0] = true ∧ (before .disable [0] r).atLastByte .disable [0] = true
          ∧ (before .getState [0] r).atLastByte .getState [0] = true
          ∧ (before .getCounters [0] r).atLastByte .getCounters [0] = true
          ∧ (before .clearCounters [0] r).atLastByte .clearCounters [0] = true
          ∧ (before .popEvent [] r).atLastByte .popEvent [] = true
          ∧ (before .clearEvents [] r).atLastByte .clearEvents [] = true
          ∧ (before .softReset [] r).atLastByte .softReset [] = true)
      ∧ (State.reset.resetting = false ∧ 12 ≤ (12 : Byte).toNat
          ∧ (before .enable [12] State.reset).atLastByte .enable [12] = true) := by
  refine ⟨⟨by decide, by decide, ?_⟩, by decide, by decide⟩
  intro cmd
  cases cmd <;> decide

/-! ## Witnesses: items -/

/-- A part with a running channel, the invariants of its configuration and windows. -/
theorem test_running_part_apart : (inState .running).windowsApart ∧ (inState .running).configInRange := by
  refine ⟨by unfold State.windowsApart; decide, ?_, ?_, by decide⟩
  · unfold ChanConfig.inRange
    decide
  · intro d
    refine ⟨by revert d; decide, by revert d; decide, fun k f h => ?_⟩
    have : ∀ d : DescId, ∀ k : Fin 4, ((inState .running).descs[d].fields[k]).all fun f =>
        decide (f.word ≤ 3 ∧ f.start ≤ 31 ∧ 1 ≤ f.width ∧ f.width ≤ 32) := by decide
    have := this d k
    rw [h] at this
    simp only [Option.all_some, decide_eq_true_eq] at this
    exact this

theorem test_witness_SelectorsNameItems :
    State.reset.resetting = false ∧ (before .getItem [2, 15, 6] State.reset).atLastByte .getItem [2, 15, 6] = true
      ∧ State.reset.itemValue 2 15 6 = some 0x00010000 ∧ State.reset.itemValue 2 15 7 = none
      ∧ (before .setItem (setBytes 0 1 0 3) State.reset).atLastByte .setItem (setBytes 0 1 0 3) = true
      ∧ ¬ (((0 : Byte).toNat = 0 ∧ (1 : Byte).toNat = 0 ∧ (0 : Byte).toNat ≤ 3)
          ∨ ((0 : Byte).toNat = 1 ∧ (1 : Byte).toNat ≤ 11 ∧ (0 : Byte).toNat ≤ 14)
          ∨ ((0 : Byte).toNat = 2 ∧ (1 : Byte).toNat ≤ 15 ∧ (0 : Byte).toNat ≤ 6)) := by decide

theorem test_witness_OwnedItemsLockThenRange :
    (let s := before .setItem (setBytes 1 0 14 16) (inState .draining)
     s.resetting = false ∧ (14 : Byte).toNat < 15 ∧ s.atLastByte .setItem (setBytes 1 (BitVec.ofNat 8 0) 14 16) = true
        ∧ (s.chan 0).rt.state ≠ .disabled)
      ∧ (State.reset.chan 0).cfg.setItem 14 16 = none ∧ ((State.reset.chan 0).cfg.setItem 14 15).isSome = true
      ∧ (let s := before .setItem (setBytes 2 0 6 0) (inState .draining)
         (6 : Byte).toNat < 7 ∧ s.atLastByte .setItem (setBytes 2 (BitVec.ofNat 8 0) 6 0) = true
          ∧ (s.chan 0).rt.state ≠ .disabled ∧ 0 < (s.chan 0).cfg.schedule.len
          ∧ ((s.chan 0).cfg.schedule.steps[0]).desc = 0)
      ∧ (∀ c, (State.reset.chan c).rt.state = .disabled)
      ∧ (State.reset.descs[15]).setItem 0 5 = none ∧ ((State.reset.descs[15]).setItem 0 4).isSome = true := by decide

theorem test_witness_GlobalItemsSet :
    State.reset.resetting = false
      ∧ (before .setItem (setBytes 0 0 0 8) State.reset).atLastByte .setItem (setBytes 0 0 0 8) = true
      ∧ ((inState .draining).chan 0).rt.state ≠ .disabled ∧ (∀ c, (State.reset.chan c).rt.state = .disabled)
      ∧ (before .setItem (setBytes 0 0 1 15) State.reset).atLastByte .setItem (setBytes 0 0 1 15) = true
      ∧ (before .setItem (setBytes 0 0 2 1048576) State.reset).atLastByte .setItem (setBytes 0 0 2 1048576) = true
      ∧ (1048576 : Word).toNat = 2 ^ 20
      ∧ (before .setItem (setBytes 0 0 3 32768) State.reset).atLastByte .setItem (setBytes 0 0 3 32768) = true := by decide

theorem test_witness_ReadBackValueIsAccepted :
    cfgA.inRange ∧ cfgA.getItem 3 = some 16 ∧ posDesc.inRange ∧ posDesc.getItem 3 = some 0x00200001
      ∧ (cfgA.setItem 14 15).isSome = true ∧ (posDesc.setItem 6 0x00080009).isSome = true
      ∧ (0x00080009 : Word).getLsbD 0 = true
      ∧ ((2 : Byte).toNat ≤ 3 ∧ (inState .running).configInRange ∧ (inState .running).itemValue 0 0 2 = some 65536
          ∧ (2 : Byte) ≠ 0)
      ∧ (ruleSetItem 0 0 3 0x7FFF State.reset).status = .ok := by
  refine ⟨by unfold ChanConfig.inRange; decide, by decide, ⟨by decide, by decide, ?_⟩, by decide, by decide, by decide, by decide,
    ⟨by decide, test_running_part_apart.2, by decide, by decide⟩, by decide⟩
  intro k f h
  have : ∀ k : Fin 4, (posDesc.fields[k]).all fun f => decide (f.word ≤ 3 ∧ f.start ≤ 31 ∧ 1 ≤ f.width ∧ f.width ≤ 32) := by
    decide
  have := this k
  rw [h] at this
  simp only [Option.all_some, decide_eq_true_eq] at this
  exact this

theorem test_witness_PackedFormsRoundTrip :
    (let sch : Schedule := ⟨4, Vector.replicate 4 ⟨15, .aux⟩⟩
     1 ≤ sch.len ∧ sch.len ≤ 4 ∧ ∀ k : Fin 4, sch.len ≤ k.val → sch.steps[k] = ⟨0, .position⟩)
      ∧ FieldSlot.inRange ⟨.auxdata, 3, 31, 32, .gray⟩
      ∧ (unpackSchedule 0x030185C6).isSome = true
      ∧ unpackField 0x001A0C11 = some (some ⟨.position, 1, 12, 26, .binary⟩) := by
  refine ⟨by decide, by unfold FieldSlot.inRange; decide, by decide, by decide⟩

/-! ## Witnesses: channel commands -/

theorem test_witness_DescriptorValidityConditions : posDesc.valid = true ∧ posDesc.positionWidth = 32 := by decide

theorem test_witness_EnableOutcomes :
    State.reset.resetting = false ∧ (before .enable [0] State.reset).atLastByte .enable [BitVec.ofNat 8 0] = true
      ∧ ((inState .lost).chan 0).rt.state ≠ .disabled
      ∧ scheduleShape (State.reset.chan 0).cfg.schedule State.reset.descs = none
      ∧ scheduleShape ((inState .disabled).chan 0).cfg.schedule (inState .disabled).descs = some (1, 32)
      ∧ (cfgA.outputBase.toNat % (32 * cfgA.outputDepth) = 0 ∧ (inState .disabled).windowOverlap 0 = false)
      ∧ (0x2020 : Word).toNat % (32 * cfgA.outputDepth) ≠ 0
      ∧ (withA { chanA .disabled with cfg := { cfgA with intakeBase := 0x2030 } }).windowOverlap 0 = true := by decide

/-- An accepted ENABLE: WAITING, and the first deadline 12,500 × 24/16 = 18,750 ticks on. -/
theorem test_enable :
    let t := after (.enableChannel 0) (before .enable [0] { inState .disabled with tick := 0xFFFFFFFF })
    (t.chan 0).rt.state = .waiting ∧ (t.chan 0).rt.deadline = some 18749 ∧ t.mgmt.resp = [0x00] := by decide

theorem test_witness_DisableOutcomes :
    let live : State := { inState .running with table := State.reset.table.set 9 ⟨0, some recTx⟩ }
    State.reset.resetting = false ∧ (before .disable [0] State.reset).atLastByte .disable [BitVec.ofNat 8 0] = true
      ∧ (State.reset.chan 0).rt.state = .disabled ∧ ((inState .running).chan 0).rt.state = .running
      ∧ ((live.entry 9).tx = some recTx ∧ recTx.orphan = false ∧ recTx.origin = .record 0 0 .first)
      ∧ (∀ e, ((inState .running).entry e).tx = none) ∧ ∀ h ∈ (inState .running).hold, h.chan ≠ 0 := by decide

/-- A DISABLE with a queued record and nothing outstanding drains at once and leaves CH_DRAINED alone in the FIFO. -/
theorem test_disable :
    let t := after (.disableChannel 0) (before .disable [0] { inState .running with records := [rec0] })
    (t.chan 0).rt.state = .disabled ∧ t.records = [] ∧ t.events = [⟨.chDrained, some 0, 0, 0⟩] := by decide

theorem test_witness_SnapshotBytes :
    State.reset.resetting = false ∧ (before .getState [11] State.reset).atLastByte .getState [BitVec.ofNat 8 11] = true
      ∧ (chanA .running).rt.miss < 256 ∧ (chanA .running).rt.history.length < 256 ∧ (chanA .running).rt.viol < 256
      ∧ (chanA .running).rt.base < 2 ^ 32 := by decide

theorem test_witness_CountersReadAndCleared :
    State.reset.resetting = false
      ∧ (before .getCounters [11] State.reset).atLastByte .getCounters [BitVec.ofNat 8 11] = true
      ∧ (before .clearCounters [11] State.reset).atLastByte .clearCounters [BitVec.ofNat 8 11] = true := by decide

/-! ## Witnesses: events, status and soft reset -/

theorem test_witness_PopAndClearEvents :
    let s : State := { State.reset with events := [⟨.chLost, some 3, 9, 0⟩] }
    s.resetting = false ∧ (before .popEvent [] s).atLastByte .popEvent [] = true
      ∧ (before .clearEvents [] s).atLastByte .clearEvents [] = true
      ∧ s.events = ⟨.chLost, some 3, 9, 0⟩ :: [] ∧ State.reset.events = [] := by decide

theorem test_witness_StatusAndTimeAnswered :
    let s : State := { State.reset with resetting := true }
    (before .getStatus [] s).atLastByte .getStatus [] = true ∧ (before .getTime [] s).atLastByte .getTime [] = true := by decide

theorem test_witness_EventsTakenWhole :
    let e : RawEvent := ⟨.resync, some 0, 0⟩
    let full : State := { State.reset with events := List.replicate 32 ⟨.chLost, none, 0, 0⟩ }
    ({ State.reset with eventMask := 0 } : State).eventMask.getLsbD e.kind.number = false
      ∧ State.reset.eventMask.getLsbD e.kind.number = true ∧ State.reset.events.length < 32 ∧ 32 ≤ full.events.length := by decide

theorem test_witness_SoftResetDisablesChannels :
    (before .softReset [] (inState .lost)).resetting = false
      ∧ (before .softReset [] (inState .lost)).atLastByte .softReset [] = true
      ∧ ((inState .lost).chan 0).rt.state = .lost ∧ ((inState .lost).chan 1).rt.state = .disabled := by decide

/-- R166: the queued record is discarded, the read held for its slot released, and the channel still DRAINING until the read
has moved. -/
theorem test_soft_reset_releases :
    let t := after .softReset (before .softReset [] { inState .running with
      records := [rec0], hold := [⟨req .read 0x2000, 0, 0, .held⟩] })
    t.resetting = true ∧ t.records = [] ∧ t.hold = [⟨req .read 0x2000, 0, 0, .released⟩] ∧ (t.chan 0).rt.state = .draining
      ∧ t.events = [] := by decide

theorem test_witness_SoftResetCompletionClears :
    let s : State := { State.reset with
      resetting := true, table := State.reset.table.set 4 ⟨7, some { recTx with orphan := true }⟩ }
    (s.rstAsserted = false ∧ s.resetting = true ∧ s.resetComplete = true) ∧ State.reset.resetting = false := by decide

/-- The completion frees the orphan, and its generation 7 is followed by 0 (R135, R169). -/
theorem test_soft_reset_completion :
    let t := after .softResetCompletion { State.reset with
      resetting := true, table := State.reset.table.set 4 ⟨7, some { recTx with orphan := true }⟩ }
    t.resetting = false ∧ t.events = [⟨.resetDone, none, 0, 0⟩] ∧ Entry.freeOrphan ⟨7, some recTx⟩ = ⟨0, none⟩ := by decide

theorem test_witness_ResetCompletionPersists :
    let s : State := { inState .draining with resetting := true }
    Instr.grant ≠ .softResetCompletion ∧ Instr.grant ≠ .pinReset ∧ Instr.grant ≠ .pinResetRelease
      ∧ s.resettingQuiet ∧ s.resetting = true ∧ s.resetComplete = true ∧ exec .grant s = .next (after .grant s) := by
  refine ⟨by decide, by decide, by decide, by unfold State.resettingQuiet; decide, by decide, by decide, rfl⟩

/-! ## Witnesses: upstream traffic -/

theorem test_witness_RequestTakenOrWaits :
    let full : State := { State.reset with intake := List.replicate 16 ⟨req .read 0, 0⟩ }
    (State.reset.rstAsserted = false ∧ State.reset.resetting = false ∧ State.reset.intake.length < 16)
      ∧ 16 ≤ full.intake.length := by decide

/-- R171: of a two-word write the enables and data of words 2 and 3 are ignored; of a READ all are. -/
theorem test_ignored_lanes :
    (requestOf 1 0x1000 2 3 9 0xFFFF (BitVec.allOnes 128)).be = 0x00FF
      ∧ (requestOf 1 0x1000 2 3 9 0xFFFF (BitVec.allOnes 128)).data = 0xFFFFFFFFFFFFFFFF
      ∧ (requestOf 0 0x1000 2 3 9 0xFFFF (BitVec.allOnes 128)).be = 0 := by decide

/-- With `test_running_part_apart`: a request of each kind of verdict, at the edges of the windows. -/
theorem test_witness_ClassifierNamesTheWindow :
    let s := inState .running
    (0x1002 % 4 ≠ 0)
      ∧ (0x203C % 4 = 0 ∧ (req .read 0x203C).len ≠ 0 ∧ ¬ 16 < 0x203C % 16 + 4 * 1)
      ∧ ((s.chan 0).rt.state ≠ .disabled
          ∧ (∃ a, 0x203C ≤ a ∧ a < 0x203C + 4 ∧ (s.chan 0).cfg.outputBase.toNat ≤ a
              ∧ a < (s.chan 0).cfg.outputBase.toNat + 32 * (s.chan 0).cfg.outputDepth))
      ∧ ((s.chan 0).rt.state = .running
          ∧ (∃ a, 0x100C ≤ a ∧ a < 0x100C + 4 ∧ (s.chan 0).cfg.intakeBase.toNat ≤ a
              ∧ a < (s.chan 0).cfg.intakeBase.toNat + 16))
      ∧ (s.chan 0).cfg.owner = none ∧ some (3 : BitVec 4) ≠ some (req .write 0x100C).init := by
  refine ⟨by decide, by decide, ⟨by decide, 0x203C, by decide, by decide, by decide, by decide⟩,
    ⟨by decide, 0x100C, by decide, by decide, by decide, by decide⟩, by decide, by decide⟩

/-- The six verdicts of R108. -/
theorem test_verdicts :
    (inState .running).classify (req .read 0x1002) = .breaksForm
      ∧ (inState .draining).classify (req .write 0x203C) = .writeRefused 0
      ∧ (inState .running).classify (req .read 0x2000) = .outputRead 0
      ∧ (inState .running).classify (req .write 0x100C) = .intake 0
      ∧ (inState .draining).classify (req .write 0x100C) = .plain
      ∧ (withA { chanA .running with cfg := { cfgA with owner := some 3 } }).classify (req .write 0x1000) = .intruder 0 := by
  decide

/-- The heads of the witnesses below, the oldest of the Intake Queue. -/
def headOf (r : Request) (s : State) : State := { s with intake := [⟨r, 40⟩] }

theorem test_witness_RefusedRequestsAnswered :
    (headOf (req .read 0x1002) (inState .running)).rstAsserted = false
      ∧ (headOf (req .read 0x1002) (inState .running)).intake = ⟨req .read 0x1002, 40⟩ :: []
      ∧ (inState .running).classify (req .read 0x1002) = .breaksForm
      ∧ (inState .draining).classify (req .write 0x203C) = .writeRefused 0
      ∧ (withA { chanA .running with cfg := { cfgA with owner := some 3 } }).classify (req .write 0x1000) = .intruder 0
      ∧ ∀ x ∈ (headOf (req .read 0x1002) (inState .running)).hold, x.cond = .held := by decide

/-- R101: with a free Forward Queue entry the RELEASED read moves before the head is taken; R120: before a full Forward Queue
the head's refusal completes while the read waits. -/
theorem test_move_before_head :
    let s : State := { headOf (req .read 0x1002) (inState .running) with hold := [⟨req .read 0x2000, 0, 0, .released⟩] }
    let moved := after .releasedReadMove s
    (after .classification s) = s ∧ moved.forward = [req .read 0x2000] ∧ (after .classification moved).intake = []
      ∧ (after .classification { s with forward := List.replicate 8 (req .read 0) }).intake = [] := by decide

theorem test_witness_RelayedOrHeldByRoom :
    let held : State := { headOf (req .read 0x2000) (inState .running) with outstanding := [out0] }
    let full : State := { headOf (req .read 0x9000) (inState .running) with forward := List.replicate 8 (req .read 0) }
    let crowded : State := { held with hold := List.replicate 8 ⟨req .read 0x2000, 0, 0, .held⟩ }
    (held.rstAsserted = false ∧ held.intake = ⟨req .read 0x2000, 40⟩ :: [])
      ∧ (full.classify (req .read 0x9000) = .plain ∧ ¬ full.forward.length < 8)
      ∧ ((inState .running).classify (req .read 0x2020) = .outputRead 0 ∧ (inState .running).reserved 0 1 = false
          ∧ (inState .running).forward.length < 8 ∧ ∀ x ∈ (inState .running).hold, x.cond = .held)
      ∧ (held.classify (req .read 0x2000) = .outputRead 0 ∧ held.reserved 0 0 = true ∧ held.hold.length < 8)
      ∧ (∀ x ∈ held.hold, x.cond = .held) ∧ (∀ x ∈ crowded.hold, x.cond = .held) ∧ 8 ≤ crowded.hold.length
      ∧ ((∃ x ∈ [(⟨req .read 0x2000, 0, 0, .released⟩ : HoldEntry)], x.cond = .released)
          ∧ (inState .running).forward.length < 8) := by decide

theorem test_witness_IntakeWriteStagedThenPassed :
    let s := headOf (req .write 0x100C) (inState .running)
    let absorbing := withA { chanA .running with cfg := { cfgA with passraw := false } }
    let waits : State := { s with hold := [⟨req .read 0x2000, 0, 0, .released⟩] }
    s.rstAsserted = false ∧ s.intake = ⟨req .write 0x100C, 40⟩ :: [] ∧ s.classify (req .write 0x100C) = .intake 0
      ∧ (s.chan 0).cfg.passraw = true ∧ (absorbing.chan 0).cfg.passraw = false
      ∧ absorbing.classify (req .write 0x100C) = .intake 0 ∧ (∀ x ∈ absorbing.hold, x.cond = .held) ∧ s.forward.length < 8 ∧ (∀ x ∈ s.hold, x.cond = .held)
      ∧ ¬ (∀ x ∈ waits.hold, x.cond = .held) := by decide

/-! ## Witnesses: frames and samples -/

theorem test_witness_StagingMergesEnabledBytes :
    let rt : Runtime := { (chanA .running).rt with frameLen := 2 }
    let first := ((req .write 0x1004).addr.toNat - cfgA.intakeBase.toNat) / 4
    (1 < rt.frameLen ∧ first ≤ 1 ∧ 1 < first + (req .write 0x1004).len.toNat) ∧ ¬ first ≤ 0
      ∧ commits ((inState .running).chan 0).cfg ((inState .running).chan 0).rt (req .write 0x1004) = false := by decide

/-- Enabled bytes replace, the others stay (R28). -/
theorem test_merge : mergeWord 0x11223344 0xAABBCCDD 0x5 = 0x11BB33DD := by decide

theorem test_witness_FieldBitsExtracted :
    (let f : FieldSlot := ⟨.position, 0, 28, 8, .gray⟩
     32 * f.word + f.start + f.width ≤ 128 ∧ 7 < f.width ∧ 32 * f.word + f.start + 7 = 32 * 1 + 3 ∧ 3 < 32
        ∧ f.width ≤ 8 ∧ f.encoding = .gray)
      ∧ 32 * 3 + 31 + 1 ≤ 128 := by decide

/-- A schedule of three steps whose descriptors are told apart by a TAG field: tags 1, 2, 2. -/
def tagged : Vector Descriptor 16 :=
  let d (n : Byte) : Descriptor := { Descriptor.reset with
    tagExpect := n, fields := #v[some ⟨.tag, 0, 0, 8, .binary⟩, some ⟨.position, 0, 8, 16, .binary⟩, none, none] }
  (((Vector.replicate 16 Descriptor.reset).set 0 (d 1)).set 1 (d 2)).set 2 (d 2)

/-- The schedule over `tagged`. -/
def cfgTagged : ChanConfig :=
  { cfgA with schedule := ⟨3, #v[⟨0, .position⟩, ⟨1, .position⟩, ⟨2, .aux⟩, ⟨0, .position⟩]⟩ }

theorem test_witness_ResyncSearchFindsLowestStep :
    resolveStep cfgTagged tagged #v[0x101, 0, 0, 0] 0 = some (0, false)
      ∧ resolveStep cfgTagged tagged #v[0x102, 0, 0, 0] 0 = some (1, true)
      ∧ resolveStep cfgTagged tagged #v[0x103, 0, 0, 0] 0 = none
      ∧ ((stepDesc cfgTagged tagged 0).field .tag).isSome = true := by decide

/-- A committing one-word write that carries 0x64. -/
def commitReq : Request := ⟨.write, 0x1000, 1, 15, 2, 7, 0x64⟩

/-- The last word of a two-word frame whose first word is not marked. -/
def halfFrame : Channel := { chanA .running with rt := { (chanA .running).rt with frameLen := 2 } }

/-- A channel on `tagged`, waiting for its first frame. -/
def taggedPart (word : Word) (step : Fin 4) : State :=
  { State.reset with
    descs := tagged
    chans := State.reset.chans.set 0 { chanA .running with
      cfg := { cfgTagged with guardG := 8 }
      rt := { (chanA .running).rt with stepPtr := step, staging := #v[word, 0, 0, 0] } } }

theorem test_witness_CommitsWithoutSample :
    (commits cfgA halfFrame.rt { commitReq with addr := 0x1004 } = true
        ∧ 0 + 1 < halfFrame.rt.frameLen ∧ (stageWrite cfgA halfFrame.rt { commitReq with addr := 0x1004 }).marks[0] ≠ true)
      ∧ (commits cfgA (chanA .running).rt commitReq = true ∧ (chanA .running).rt.frameLen = 1)
      ∧ resolveStep cfgTagged tagged (stageWrite cfgTagged (chanA .running).rt commitReq).staging 0 = none
      ∧ resolveStep cfgTagged tagged (stageWrite cfgTagged (chanA .running).rt { commitReq with data := 2 }).staging 0
          = some (1, true)
      ∧ (cfgTagged.schedule.steps[1]).kind = .position ∧ (cfgTagged.schedule.steps[2]).kind = .aux
      ∧ ((chanA .running).rt.state = .running ∧ (chanA .running).rt.lastArrival = some 0
          ∧ (0 - 0 : Word).toNat < (chanA .running).rt.base * 8 / 16)
      ∧ (let d : Descriptor := { posDesc with faultMask := 4, fields := posDesc.fields.set 1 (some ⟨.fault, 0, 0, 3, .binary⟩) }
         BitVec.ofNat 32 (decodeField #v[0x64, 0, 0, 0] ⟨.fault, 0, 0, 3, .binary⟩) &&& d.faultMask ≠ 0)
      ∧ (let d : Descriptor := { posDesc with fields := posDesc.fields.set 3 (some ⟨.status, 1, 0, 16, .binary⟩) }
         d.field .status = some ⟨.status, 1, 0, 16, .binary⟩ ∧ d.field .auxdata = none) := by decide

/-- A frame that comes before its guard is dropped as EARLY after its RESYNC; the step pointer stays (R35, R36). -/
theorem test_early_after_resync :
    let t := (taggedPart 0 0).intakeWrite 0 { commitReq with data := 2 } 6249
    t.events.map EventEntry.kind = [.resync, .earlyFrame] ∧ (t.chan 0).ctr.early = 1 ∧ (t.chan 0).rt.stepPtr = 0
      ∧ (t.chan 0).rt.pend.resynced = true ∧ t.records = [] := by decide

theorem test_witness_AcceptedSampleTaken :
    let s := inState .running
    let rt := stageWrite cfgA (chanA .running).rt commitReq
    (s.chan 0).rt.state.intakeMatched = true ∧ commits (s.chan 0).cfg (s.chan 0).rt commitReq = true
      ∧ (∀ j : Fin 4, j.val + 1 < rt.frameLen → rt.marks[j] = true)
      ∧ resolveStep cfgA s.descs rt.staging rt.stepPtr = some (0, false) ∧ (cfgA.schedule.steps[0]).kind = .position
      ∧ isEarly cfgA rt .position 40 = false ∧ (s.descs[0]).faulted rt.staging = false
      ∧ s.records.length < 8 ∧ 8 ≤ (List.replicate 8 rec0).length := by decide

/-- A sample of 0x64 in RUNNING: EP, OP and V follow, the record carries them, the deadline is 100 + 100 × 24/16. -/
theorem test_accepted_sample :
    let t := (inState .running).intakeWrite 0 commitReq 100
    (t.chan 0).rt.ep = 0x64 ∧ (t.chan 0).rt.vel = 0x64 ∧ (t.chan 0).rt.history = [100] ∧ (t.chan 0).rt.deadline = some 250
      ∧ t.records.map (fun r => r.words.toList) = [[0, 0x64, 0, 100, 0x64, 0, 0x64, 0]] := by decide

theorem test_witness_UnwrapFollowsThePosition :
    let x : Sample := ⟨0x0100, 16, some (0xFFF, 12, .signed), 0⟩
    let y : Sample := ⟨5, 32, none, 0⟩
    let rt : Runtime := { (chanA .waiting).rt with pLast := none, width := 28 }
    let run := (chanA .running).rt
    (1 ≤ rt.width ∧ rt.width ≤ 48 ∧ x.framePosition < 2 ^ rt.width ∧ rt.pLast = none ∧ x.turns = some (0xFFF, 12, .signed)
        ∧ 2 ^ (rt.width - 1) ≤ x.framePosition)
      ∧ (1 ≤ run.width ∧ run.width ≤ 48 ∧ y.framePosition < 2 ^ run.width ∧ run.pLast = some 0 ∧ 0 < 2 ^ run.width
          ∧ y.turns = none ∧ run.ep.toNat % 2 ^ run.width = 0) := by decide

theorem test_witness_ConditionerOutputs :
    let cfg (m : FilterMode) : ChanConfig := { cfgA with filterMode := m, limit := 50, persist := 2 }
    let rt (ep : Pos) (st : CondState) (viol : Nat) : Runtime := { (chanA .running).rt with ep := ep, cond := st, viol := viol }
    (cfg .off).filterMode = .off
      ∧ ((cfg .curve).filterMode ≠ .off ∧ (rt 9 .prime 0).cond = .prime)
      ∧ ((cfg .rate).filterMode ≠ .off ∧ (rt 50 .slew 2).cond ≠ .prime ∧ -50 ≤ ((50 : Pos) - 0).toInt ∧ ((50 : Pos) - 0).toInt ≤ 50)
      ∧ 50 < ((51 : Pos) - 0).toInt ∧ ((-51 : Pos) - 0).toInt < -50
      ∧ ((rt 51 .track 0).viol + 1 < (cfg .rate).persist) ∧ (cfg .rate).persist ≤ (rt 51 .holdover 1).viol + 1 := by decide

/-- R54 with LIMIT 50 and PERSIST 2: within the limit, held over, and slewing by LIMIT with SLEW_BEGIN. -/
theorem test_rate_outputs :
    let cfg : ChanConfig := { cfgA with filterMode := .rate, limit := 50, persist := 2 }
    let rt (ep : Pos) (viol : Nat) : Runtime := { (chanA .running).rt with ep := ep, vel := 7, viol := viol }
    (conditionReal cfg (rt 50 0)).1.op = 50 ∧ (conditionReal cfg (rt 51 0)).1.op = 7
      ∧ (conditionReal cfg (rt (-51) 1)).1.op = -50 ∧ (conditionReal cfg (rt (-51) 1)).2.2 = some .slewBegin := by decide

/-! ## Witnesses: arrivals and deadlines -/

theorem test_witness_ArrivalsAndIntervals :
    let rt : Runtime := { (chanA .running).rt with history := [1, 2, 3, 4, 5, 6, 7, 8] }
    rt.lastArrival = some 0 ∧ rt.miss = 0 ∧ rt.mark = .clean ∧ rt.state = .running
      ∧ ({ rt with miss := 1 } : Runtime).miss ≠ 0
      ∧ rt.history ++ [9] = [1] ++ [2, 3, 4, 5, 6, 7, 8, 9]
      ∧ [2, 3, 4, 5, 6, 7, 8, 9] = [2, 3, 4, 5] ++ [6, 7, 8, 9]
      ∧ [6, 7, 8, 9].length = min [2, 3, 4, 5, 6, 7, 8, 9].length cfgA.avgDepth := by decide

theorem test_witness_DeadlineOutcomes :
    ((inState .running).rstAsserted = false ∧ ((inState .running).chan 0).rt.deadline = some 18750
        ∧ ((18750 : Word) - 18750).toNat < 2 ^ 31 ∧ 2 ^ 31 ≤ ((18749 : Word) - 18750).toNat)
      ∧ ((inState .running).chan 0).rt.state = .running ∧ ((inState .waiting).chan 0).rt.state = .waiting
      ∧ 0 + 1 < cfgA.missLimit ∧ cfgA.missLimit ≤ 2 + 1 ∧ 8 ≤ (List.replicate 8 rec0).length := by decide

/-- R77's worked example: a WAITING channel with no sample is LOST at its third deadline. -/
theorem test_waiting_deadlines :
    let s (n : Nat) (d : Word) : State :=
      { withA { chanA .waiting with rt := { (chanA .waiting).rt with miss := n, deadline := some d } } with tick := d }
    ((after (.deadlineReached 0) (s 0 18750)).chan 0).rt.deadline = some 31250
      ∧ ((after (.deadlineReached 0) (s 1 31250)).chan 0).rt.deadline = some 43750
      ∧ ((after (.deadlineReached 0) (s 2 43750)).chan 0).rt.state = .lost
      ∧ (after (.deadlineReached 0) (s 2 43750)).events = [⟨.chLost, some 0, 43750, 0⟩] := by decide

/-! ## Witnesses: records, held reads and the Downstream Port -/

theorem test_witness_HalfEndsAndSettles :
    let s : State := { inState .draining with outstanding := [⟨1, 0, 0, .awaiting, .awaiting⟩, out0] }
    s.outstanding = [⟨1, 0, 0, .awaiting, .awaiting⟩] ++ out0 :: [] ∧ ¬ ((1 : ChanId) = out0.chan ∧ (0 : Half) = out0.seq)
      ∧ HalfOutcome.ok ≠ .awaiting ∧ out0.second = .awaiting
      ∧ (let t := State.endHalf { s with outstanding := [{ out0 with second := .timeout }] } 0 0 .first .ok
         (t.1.chan 0).rt.state = .draining ∧ t.1.drained 0 = true ∧ t.2 = [⟨.recordFailed, some 0, 2⟩]) := by decide

theorem test_witness_ReleasedReadMoves :
    let s : State := { inState .draining with
      hold := [⟨req .read 0x2020, 0, 1, .held⟩, ⟨req .read 0x2000, 0, 0, .released⟩] }
    s.rstAsserted = false ∧ s.hold = [⟨req .read 0x2020, 0, 1, .held⟩] ++ ⟨req .read 0x2000, 0, 0, .released⟩ :: []
      ∧ s.forward.length < 8 ∧ (s.chan 0).rt.state = .draining
      ∧ State.drained { s with hold := [⟨req .read 0x2020, 0, 1, .held⟩], forward := [req .read 0x2000] } 0 = false
      ∧ State.drained { s with hold := [], forward := [req .read 0x2000] } 0 = true
      ∧ (∀ g ∈ State.reset.hold, g.cond = .held) := by decide

theorem test_witness_DownstreamTagsNameEntries :
    192 ≤ (192 : Byte).toNat ∧ (191 : Byte).toNat < 192
      ∧ ({ State.reset with
          table := State.reset.table.set 5 ⟨3, some (fwdTx (.granted 0 0))⟩, sendOrder := [5], offeredInit := some 15 }
        : State).dqOffer = some ⟨.read, 0x4000, 2, 0, 15, 77, 0⟩ := by decide

theorem test_witness_ArbiterFollowsItsTable :
    let s : State := { inState .running with forward := [req .read 0x9000], records := List.replicate 5 rec0 }
    s.forward ≠ [] ∧ (∃ r ∈ s.records, s.eligible r = true) ∧ ¬ 6 ≤ s.records.length
      ∧ 6 ≤ (List.replicate 6 rec0).length
      ∧ (List.finRange 24).countP (fun e => (s.entry e).tx.isNone) = 24
      ∧ (List.finRange 24).countP
          (fun e => (State.entry { s with table := (Vector.replicate 24 ⟨0, some recTx⟩).set 23 ⟨0, none⟩ } e).tx.isNone) = 1 := by
  decide

theorem test_witness_GrantOutcomes :
    (let s : State := { State.reset with forward := [req .read 0x9000], table := State.reset.table.set 0 ⟨0, some recTx⟩ }
     s.rstAsserted = false ∧ s.grantee = some .forward ∧ s.forward = req .read 0x9000 :: [] ∧ (s.entry 1).tx = none
        ∧ ∀ f : EntryId, f < 1 → (s.entry f).tx ≠ none)
      ∧ State.reset.grantee = none
      ∧ (let s : State := { inState .running with
           records := [rec0, { rec0 with seq := 1, slot := 1 }], forward := [req .read 0x2000]
           table := State.reset.table.set 1 ⟨0, some (fwdTx (.issued 0 1024))⟩ }
         s.grantee = some .record ∧ s.records = [rec0] ++ { rec0 with seq := 1, slot := 1 } :: []
          ∧ s.eligible { rec0 with seq := 1, slot := 1 } = true ∧ (∀ q ∈ [rec0], s.eligible q = false)
          ∧ (0 : EntryId) < 2 ∧ (s.entry 0).tx = none ∧ (s.entry 2).tx = none
          ∧ ∀ f : EntryId, f < 2 → f ≠ 0 → (s.entry f).tx ≠ none) := by decide

/-- R96: the two halves of a record go to slot start and slot start + 16, the first half first in the send order. -/
theorem test_record_grant :
    let t := after .grant { inState .running with records := [{ rec0 with slot := 1, words := #v[1, 2, 3, 4, 5, 6, 7, 8] }] }
    t.sendOrder = [0, 1] ∧ (t.entry 0).tx.map Transaction.addr = some 0x2020 ∧ (t.entry 1).tx.map Transaction.addr = some 0x2030
      ∧ (t.entry 1).tx.map Transaction.phase = some (.granted 0xFFFF 0x00000008000000070000000600000005)
      ∧ t.outstanding = [⟨0, 0, 1, .awaiting, .awaiting⟩] := by decide

theorem test_witness_IssueAcceptsTheOffer :
    let s : State := { State.reset with
      table := State.reset.table.set 5 ⟨3, some (fwdTx (.granted 0 0))⟩, sendOrder := [5], offeredInit := some 15 }
    s.rstAsserted = false ∧ s.sendOrder = 5 :: [] ∧ (s.entry 5).tx = some (fwdTx (.granted 0 0))
      ∧ (fwdTx (.granted 0 0)).phase = .granted 0 0 ∧ s.offeredInit = some 15
      ∧ s.dqOffer = some ⟨.read, 0x4000, 2, 0, 15, 77, 0⟩ ∧ exec .issue s = .next (after .issue s) := by
  refine ⟨by decide, by decide, by decide, by decide, by decide, by decide, rfl⟩

/-- R171: kind 0 for READ and 1 for WRITE, and lanes that belong to no word of the request driven 0. -/
theorem test_dq_signals :
    Request.transfer ⟨.read, 0x4000, 2, 0xFFFF, 15, 77, 5⟩ = ⟨0, 0x4000, 2, 15, 77, 0, 0⟩
      ∧ Request.transfer ⟨.write, 0x4000, 1, 0xFFFF, 15, 77, 0x200000001⟩ = ⟨1, 0x4000, 1, 15, 77, 0x000F, 1⟩ := by decide

/-- R172: status 0 with data word k at lane k, 2 with seven zero words of a refused read, 1 without data. -/
theorem test_us_signals :
    UpResponse.transfer ⟨3, 9, .ok, [1, 2]⟩ = ⟨3, 9, 0, 0x200000001⟩
      ∧ UpResponse.transfer ⟨3, 9, .refused, List.replicate 7 0⟩ = ⟨3, 9, 2, 0⟩
      ∧ UpResponse.transfer ⟨3, 9, .memoryError, []⟩ = ⟨3, 9, 1, 0⟩ := by decide

theorem test_witness_ResponseOutcomes :
    let late : Entry := ⟨0, some { recTx with orphan := true }⟩
    let live := (State.reset.table.set 5 ⟨3, some (fwdTx (.issued 0 1024))⟩).set 6 ⟨0, some recTx⟩
    let s : State := { inState .running with table := live.set 7 late }
    s.rstAsserted = false
      ∧ ((77 : Byte) = downTag 5 (s.entry 5).gen ∧ (s.entry 5).tx = some (fwdTx (.issued 0 1024)))
      ∧ ((6 : Byte) = downTag 6 (s.entry 6).gen ∧ (s.entry 6).tx = some recTx ∧ recTx.orphan = false)
      ∧ ((7 : Byte) = downTag 7 (s.entry 7).gen ∧ (s.entry 7).tx = some { recTx with orphan := true })
      ∧ s.matchTag 5 = none ∧ s.matchTag 192 = none := by decide

/-- A read of two words answered OK gets words 0 and 1; another status gives MEMORY_ERROR and zeros (R122, R133). -/
theorem test_read_answers :
    let s : State := { State.reset with table := State.reset.table.set 5 ⟨7, some (fwdTx (.issued 0 1024))⟩ }
    (after (.response 0 173 0 0x000000030000000200000001) s).usOut = [⟨2, 7, .ok, [1, 2]⟩]
      ∧ (after (.response 0 173 2 0x000000030000000200000001) s).usOut = [⟨2, 7, .memoryError, [0, 0]⟩]
      ∧ (after (.response 0 173 0 0) s).entry 5 = ⟨0, none⟩ := by decide

theorem test_witness_TimeoutOrphansTheEntry :
    let s : State := { inState .running with
      tick := 1024, table := (State.reset.table.set 5 ⟨3, some (fwdTx (.issued 0 1024))⟩).set 6 ⟨0, some recTx⟩ }
    s.rstAsserted = false ∧ (s.entry 5).tx = some (fwdTx (.issued 0 1024)) ∧ (s.entry 6).tx = some recTx
      ∧ recTx.phase = .issued 0 1024 ∧ recTx.orphan = false ∧ (s.tick - (0 + BitVec.ofNat 32 1024)).toNat < 2 ^ 31
      ∧ 2 ^ 31 ≤ ((1023 : Word) - (0 + BitVec.ofNat 32 1024)).toNat ∧ (s.entry 0).tx = none := by decide

/-! ## Witnesses: the whole part -/

theorem test_witness_LockedConfigurationStands :
    exec .grant (inState .running) = .next (after .grant (inState .running)) ∧ Instr.grant ≠ .pinReset
      ∧ Instr.grant ≠ .pinResetRelease ∧ ((inState .running).chan 0).rt.state ≠ .disabled
      ∧ 0 < ((inState .running).chan 0).cfg.schedule.len := ⟨rfl, by decide, by decide, by decide, by decide⟩

theorem test_witness_CountersNeverDecrease :
    exec (.deadlineReached 0) (inState .running) = .next (after (.deadlineReached 0) (inState .running)) := rfl

theorem test_witness_GenerationsMarkFreeing :
    exec (.response 0 6 0 0) { inState .running with table := State.reset.table.set 6 ⟨0, some recTx⟩ } =
      .next (after (.response 0 6 0 0) { inState .running with table := State.reset.table.set 6 ⟨0, some recTx⟩ })
      ∧ Instr.response 0 6 0 0 ≠ .pinReset ∧ Instr.response 0 6 0 0 ≠ .pinResetRelease := ⟨rfl, by decide, by decide⟩

theorem test_witness_EveryRequestAnsweredOnce :
    exec .classification (headOf (req .read 0x1002) (inState .running)) =
      .next (after .classification (headOf (req .read 0x1002) (inState .running)))
      ∧ Instr.classification ≠ .pinReset ∧ Instr.classification ≠ .pinResetRelease ∧ (inState .running).uqAccept = true :=
  ⟨rfl, by decide, by decide, by decide⟩

/-- A part at work: channel 0 RUNNING with a queued record, its waiting read held, an intake write next to be examined. -/
def atWork : State :=
  { headOf commitReq (inState .running) with
    records := [rec0], hold := [⟨req .read 0x2000, 0, 0, .held⟩], pending := [.classification] }

/-- The part at work meets the premises of every statement of an invariant, and its step answers a next state. -/
theorem test_witness_StepKeepsInvariants :
    (∃ t, step atWork = .next t) ∧ atWork.withinCapacity ∧ atWork.configInRange ∧ atWork.windowsApart ∧ atWork.timingAgrees
      ∧ atWork.rateBounded ∧ atWork.positionsFollow ∧ atWork.disabledQuiet ∧ atWork.resettingQuiet ∧ atWork.sendOrderAgrees
      ∧ atWork.heldReserved ∧ atWork.recordWritesApart := by
  have free : ∀ e, (atWork.entry e).tx = none := by decide
  refine ⟨⟨_, rfl⟩, ?_, test_running_part_apart.2, test_running_part_apart.1, ?_, ?_, ?_, ⟨by decide, ?_, by decide⟩,
    ?_, ⟨?_, by decide, by decide, ?_⟩, ?_, ⟨by decide, by decide, ?_⟩⟩
  · unfold State.withinCapacity; decide
  · unfold State.timingAgrees Channel.timingAgrees; decide
  · unfold State.rateBounded Channel.rateBounded; decide
  · intro c hc
    have : c = 0 := by revert c; decide
    subst this
    refine ⟨by decide, by decide, by decide, ?_⟩
    intro p hp
    cases hp
    decide
  · intro e c h
    simp [Entry.serves, Entry.holdsDrain, free e] at h
  · unfold State.resettingQuiet; decide
  · intro e
    constructor
    · intro h; cases h
    · rintro ⟨t, be, d, h, -⟩; rw [free e] at h; cases h
  · intro e t h; rw [free e] at h; cases h
  · unfold State.heldReserved; decide
  · intro e f t u _ h; rw [free e] at h; cases h

end Sys2Proof.Tests
end

section
/-! PROOFS. The Frame Unit (02_frame_descriptors_and_the_decode_schedule.md): the bits of a field, raw and decoded, and the step
by which a complete frame is decoded. -/

namespace Sys2Proof.Machine

/-! ## The run of frame bits (R26) -/

/-- The run is the four words, each put below the ones after it. -/
theorem frameRun_eq_nested (words : Vector Word 4) :
    frameRun words =
      2 ^ 32 * (2 ^ 32 * (2 ^ 32 * words[3].toNat + words[2].toNat) + words[1].toNat) + words[0].toNat := by
  unfold frameRun
  omega

/-- Below bit 32 stands the word itself. -/
theorem testBit_word_below (hi : Nat) (lo : Word) {b : Nat} (hb : b < 32) :
    (2 ^ 32 * hi + lo.toNat).testBit b = lo.getLsbD b := by
  rw [Nat.testBit_two_pow_mul_add _ lo.isLt, if_pos hb, BitVec.testBit_toNat]

/-- From bit 32 on stand the words above it. -/
theorem testBit_words_above (hi : Nat) (lo : Word) (n : Nat) :
    (2 ^ 32 * hi + lo.toNat).testBit (32 + n) = hi.testBit n := by
  rw [Nat.testBit_two_pow_mul_add _ lo.isLt]
  simp

/-- Bit b of word w is bit 32w + b of the run. -/
theorem testBit_frameRun (words : Vector Word 4) (w : Fin 4) {b : Nat} (hb : b < 32) :
    (frameRun words).testBit (32 * w.val + b) = (words[w]).getLsbD b := by
  rw [frameRun_eq_nested]
  match w with
  | 0 => simpa using testBit_word_below _ words[0] hb
  | 1 =>
    rw [show 32 * (1 : Fin 4).val + b = 32 + b by omega, testBit_words_above]
    exact testBit_word_below _ words[1] hb
  | 2 =>
    rw [show 32 * (2 : Fin 4).val + b = 32 + (32 + b) by omega, testBit_words_above, testBit_words_above]
    exact testBit_word_below _ words[2] hb
  | 3 =>
    rw [show 32 * (3 : Fin 4).val + b = 32 + (32 + (32 + b)) by omega,
      testBit_words_above, testBit_words_above, testBit_words_above]
    exact BitVec.testBit_toNat _

theorem rawField_lt (words : Vector Word 4) (f : FieldSlot) : rawField words f < 2 ^ f.width :=
  Nat.mod_lt _ (Nat.two_pow_pos _)

/-- A raw bit below the width is its bit of the run. -/
theorem testBit_rawField (words : Vector Word 4) (f : FieldSlot) {i : Nat} (hi : i < f.width) :
    (rawField words f).testBit i = (frameRun words).testBit (32 * f.word + f.start + i) := by
  unfold rawField
  rw [Nat.testBit_mod_two_pow, Nat.testBit_div_two_pow]
  simp [hi, Nat.add_comm]

/-! ## The Gray code (R27) -/

/-- A bit of an exclusive-OR of many numbers is the exclusive-OR of their bits. -/
theorem testBit_foldl_xor (g : Nat → Nat) (i : Nat) (l : List Nat) (acc : Nat) :
    (l.foldl (fun a k => a ^^^ g k) acc).testBit i = (l.map fun k => (g k).testBit i).foldl xor (acc.testBit i) := by
  induction l generalizing acc with
  | nil => rfl
  | cons k l ih => simp [ih, Nat.testBit_xor]

theorem foldl_xor_of_all_false (acc : Bool) (l : List Bool) (h : ∀ b ∈ l, b = false) : l.foldl xor acc = acc := by
  rw [List.eq_replicate_of_mem h]
  induction l.length with
  | zero => rfl
  | succ n ih => simpa [List.replicate_succ] using ih

/-- Bit i of a decoded Gray value is the exclusive-OR of the raw bits i to width − 1: the bits from the width on, which the
fold of `grayDecode` passes too, are false. -/
theorem testBit_grayDecode {width raw : Nat} (h : raw < 2 ^ width) (i : Nat) :
    (grayDecode width raw).testBit i =
      ((List.range (width - i)).map fun k => raw.testBit (i + k)).foldl xor false := by
  have above (k : Nat) : raw.testBit (i + ((width - i) + k)) = false :=
    Nat.testBit_lt_two_pow (h.trans_le (Nat.pow_le_pow_right (by omega) (by omega)))
  have hsplit : List.range width =
      List.range (width - i) ++ (List.range (width - (width - i))).map ((width - i) + ·) := by
    rw [← List.range_add, Nat.add_sub_cancel' (Nat.sub_le _ _)]
  calc (grayDecode width raw).testBit i
      = ((List.range width).map fun k => raw.testBit (i + k)).foldl xor false := by
        simp [grayDecode, testBit_foldl_xor, Nat.testBit_shiftRight, Nat.add_comm]
    _ = ((List.range (width - i)).map fun k => raw.testBit (i + k)).foldl xor false := by
        rw [hsplit, List.map_append, List.foldl_append]
        exact foldl_xor_of_all_false _ _ (by simp [above])

theorem decodeField_of_ne_gray (words : Vector Word 4) {f : FieldSlot} (h : f.encoding ≠ .gray) :
    decodeField words f = rawField words f := by
  unfold decodeField
  cases he : f.encoding with
  | binary | signed => rfl
  | gray => exact absurd he h

theorem decodeField_of_gray (words : Vector Word 4) {f : FieldSlot} (h : f.encoding = .gray) :
    decodeField words f = grayDecode f.width (rawField words f) := by
  simp [decodeField, h]

theorem testBit_rawField_of_width_le (words : Vector Word 4) {f : FieldSlot} {i : Nat} (hi : f.width ≤ i) :
    (rawField words f).testBit i = false :=
  Nat.testBit_lt_two_pow ((rawField_lt words f).trans_le (Nat.pow_le_pow_right (by omega) hi))

theorem testBit_decodeField_of_width_le (words : Vector Word 4) {f : FieldSlot} {i : Nat} (hi : f.width ≤ i) :
    (decodeField words f).testBit i = false := by
  by_cases hg : f.encoding = .gray
  · rw [decodeField_of_gray words hg, testBit_grayDecode (rawField_lt words f), Nat.sub_eq_zero_of_le hi]
    rfl
  · rw [decodeField_of_ne_gray words hg, testBit_rawField_of_width_le words hi]

/-- Settles O32: the run bit by bit, then the fold of the Gray code bit by bit. -/
theorem fieldBitsExtracted : Obligations.FieldBitsExtracted := by
  unfold Obligations.FieldBitsExtracted
  intro words f i _
  refine ⟨?raw, ?beyond, decodeField_of_ne_gray words, ?gray⟩
  case raw =>
    intro w b hi hplace hb
    rw [testBit_rawField words f hi, hplace, testBit_frameRun words w hb]
  case beyond =>
    exact fun hi => ⟨testBit_rawField_of_width_le words hi, testBit_decodeField_of_width_le words hi⟩
  case gray =>
    intro hg _
    rw [decodeField_of_gray words hg, testBit_grayDecode (rawField_lt words f)]

/-! ## The resolved step (R33, R34) -/

/-- The descriptor has a TAG field and it holds TAG_EXPECT (R33). -/
def Descriptor.tagMatches (d : Descriptor) (words : Vector Word 4) : Prop :=
  ∃ f, d.field .tag = some f ∧ decodeField words f = d.tagExpect.toNat

theorem tagTest_eq_none_iff (d : Descriptor) (words : Vector Word 4) :
    d.tagTest words = none ↔ d.field .tag = none := by
  simp [Descriptor.tagTest]

theorem tagTest_eq_some_true_iff (d : Descriptor) (words : Vector Word 4) :
    d.tagTest words = some true ↔ d.tagMatches words := by
  simp [Descriptor.tagTest, Descriptor.tagMatches]

/-- The test fails exactly where there is a TAG field and it does not match. -/
theorem tagTest_eq_some_false_iff (d : Descriptor) (words : Vector Word 4) :
    d.tagTest words = some false ↔ (d.field .tag).isSome = true ∧ ¬ d.tagMatches words := by
  rw [← tagTest_eq_some_true_iff, ← Option.ne_none_iff_isSome, ne_eq, ← tagTest_eq_none_iff d words]
  rcases d.tagTest words with _ | _ | _ <;> simp

section
variable (cfg : ChanConfig) (descs : Vector Descriptor 16) (words : Vector Word 4) (cur : Fin 4)

/-- The steps the resync search is for: active, not the current one, with a TAG field that matches (R34). -/
def resyncFinds (k : Fin 4) : Prop :=
  k.val < cfg.schedule.len ∧ k ≠ cur ∧ (stepDesc cfg descs k).tagMatches words

theorem resyncSearch_eq_some_iff (k : Fin 4) :
    resyncSearch cfg descs words cur = some k ↔
      resyncFinds cfg descs words cur k ∧ ∀ j < k, ¬ resyncFinds cfg descs words cur j := by
  unfold resyncSearch
  rw [← Fin.find?_eq_find?_finRange, Fin.find?_eq_some_iff]
  simp [resyncFinds, Schedule.active, ← tagTest_eq_some_true_iff, and_assoc]

theorem resyncSearch_eq_none_iff :
    resyncSearch cfg descs words cur = none ↔ ∀ k, ¬ resyncFinds cfg descs words cur k := by
  unfold resyncSearch
  rw [← Fin.find?_eq_find?_finRange, Fin.find?_eq_none_iff]
  simp [resyncFinds, Schedule.active, ← tagTest_eq_some_true_iff]

/-- The current step resolves the frame unless its TAG field is present and does not match (R33). -/
theorem resolveStep_of_current
    (h : (stepDesc cfg descs cur).field .tag = none ∨ (stepDesc cfg descs cur).tagMatches words) :
    resolveStep cfg descs words cur = some (cur, false) := by
  rw [← tagTest_eq_none_iff _ words, ← tagTest_eq_some_true_iff] at h
  unfold resolveStep
  rcases h with h | h <;> rw [h]

/-- After a TAG field that does not match, the search decides (R34). -/
theorem resolveStep_of_mismatch (hsome : ((stepDesc cfg descs cur).field .tag).isSome = true)
    (hmiss : ¬ (stepDesc cfg descs cur).tagMatches words) :
    resolveStep cfg descs words cur = (resyncSearch cfg descs words cur).map fun k => (k, true) := by
  unfold resolveStep
  rw [(tagTest_eq_some_false_iff _ words).2 ⟨hsome, hmiss⟩]

end

/-- Settles O33: the current step's TAG test decides, and where it fails the search does, by the lowest step it is for. -/
theorem resyncSearchFindsLowestStep : Obligations.ResyncSearchFindsLowestStep := by
  unfold Obligations.ResyncSearchFindsLowestStep
  intro cfg descs words cur tag hits found
  refine ⟨resolveStep_of_current cfg descs words cur, fun hsome hmiss => ?_⟩
  rw [resolveStep_of_mismatch cfg descs words cur hsome hmiss]
  constructor
  · intro k hfound hlowest
    rw [(resyncSearch_eq_some_iff cfg descs words cur k).2 ⟨hfound, hlowest⟩]
    rfl
  · intro hnone
    rw [(resyncSearch_eq_none_iff cfg descs words cur).2 hnone]
    rfl

end Sys2Proof.Machine
end

section
/-! PROOFS. The management port (09_management_port.md): the item commands and their selectors, the counters, the Event FIFO,
status and time. -/

namespace Sys2Proof.Machine

/-! ## The taking of a command (R155, R157) -/

/-- A row whose last byte has arrived, of a command that is not held back by RESETTING: its own rule decides in every state. -/
theorem State.row_of_not_held {s : State} {cmd : Cmd} {args : List Byte} (rule : State → Answer)
    (hlast : s.atLastByte cmd args = true) (hheld : cmd.heldByReset = false) :
    s.row cmd args rule = (rule s).state.answer cmd (rule s).status (rule s).data := by
  unfold State.row State.takeCommand
  rw [if_pos hlast, if_neg (by simp [hheld])]

/-- A command whose row is taken does what its own rule answers. -/
theorem exec_eq_answer {i : Instr} {s t : State} {cmd : Cmd} {args : List Byte} {rule : State → Answer} {st : Status}
    {data : List Byte} (hrow : exec i s = .next (s.row cmd args rule))
    (htaken : s.row cmd args rule = (rule s).state.answer cmd (rule s).status (rule s).data)
    (hrule : rule s = ⟨t, st, data⟩) : exec i s = .next (t.answer cmd st data) := by
  rw [hrow, htaken, hrule]

/-- An answer other than OK carries zeros, whatever the rule hands on (R154). -/
theorem State.answer_of_ne_ok (s : State) (cmd : Cmd) {st : Status} (h : st ≠ .ok) (data data' : List Byte) :
    s.answer cmd st data = s.answer cmd st data' := by
  simp only [State.answer, if_neg h]

/-- No byte arrives under pin reset (R170). -/
theorem State.rstAsserted_of_atLastByte {s : State} {cmd : Cmd} {args : List Byte} (h : s.atLastByte cmd args = true) :
    s.rstAsserted = false := by
  simp only [State.atLastByte, Bool.and_eq_true, Bool.not_eq_true'] at h
  exact h.1

/-- A channel argument that spells a channel is taken by the rule for it. -/
theorem withChannel_ofNat (c : ChanId) (rule : ChanId → State → Answer) (s : State) :
    withChannel (BitVec.ofNat 8 c.val) rule s = rule c s := by
  simp only [withChannel, channelOf_ofNat]

/-! ## Selectors (R158) -/

/-- The selectors of the three scopes, by their bytes. -/
theorem namesItem_iff (scope index item : Byte) :
    namesItem scope index item = true ↔
      (scope.toNat = 0 ∧ index.toNat = 0 ∧ item.toNat ≤ 3) ∨ (scope.toNat = 1 ∧ index.toNat ≤ 11 ∧ item.toNat ≤ 14)
        ∨ (scope.toNat = 2 ∧ index.toNat ≤ 15 ∧ item.toNat ≤ 6) := by
  simp only [namesItem, Bool.and_eq_true, decide_eq_true_eq]
  unfold scopeSize
  split
  case h_4 hglobal hchannel hdescriptor =>
    change _ ≠ _ at hglobal hchannel hdescriptor
    omega
  all_goals omega

theorem State.getGlobal_eq_none_iff (s : State) (n : Nat) : s.getGlobal n = none ↔ 4 ≤ n := by
  match n with
  | 0 | 1 | 2 | 3 => simp [State.getGlobal]
  | n + 4 => simp [State.getGlobal]

theorem ChanConfig.getItem_eq_none_iff (cfg : ChanConfig) (n : Nat) : cfg.getItem n = none ↔ 15 ≤ n := by
  match n with
  | 0 | 1 | 2 | 3 | 4 | 5 | 6 | 7 | 8 | 9 | 10 | 11 | 12 | 13 | 14 => simp [ChanConfig.getItem]
  | n + 15 => simp [ChanConfig.getItem]

theorem Descriptor.getItem_eq_none_iff (d : Descriptor) (n : Nat) : d.getItem n = none ↔ 7 ≤ n := by
  match n with
  | 0 | 1 | 2 | 3 | 4 | 5 | 6 => simp [Descriptor.getItem]
  | n + 7 => simp [Descriptor.getItem]

/-- An item stands under exactly the selectors that name one. -/
theorem State.itemValue_eq_none_iff (s : State) (scope index item : Byte) :
    s.itemValue scope index item = none ↔ namesItem scope index item = false := by
  rw [← Bool.not_eq_true, namesItem_iff]
  unfold State.itemValue
  split
  case h_1 hscope =>
    have hzero : index.toNat = 0 ↔ index = 0 := by simp [← BitVec.toNat_inj]
    by_cases hindex : index = 0 <;> simp [hscope, hzero, hindex, State.getGlobal_eq_none_iff, Nat.succ_le_iff]
  case h_2 hscope => split <;> simp [ChanConfig.getItem_eq_none_iff] <;> omega
  case h_3 hscope => split <;> simp [Descriptor.getItem_eq_none_iff] <;> omega
  case h_4 hglobal hchannel hdescriptor =>
    change _ ≠ _ at hglobal hchannel hdescriptor
    simp [hglobal, hchannel, hdescriptor]

theorem State.itemValue_channel (s : State) (c : ChanId) (item : Byte) :
    s.itemValue 1 (BitVec.ofNat 8 c.val) item = (s.chan c).cfg.getItem item.toNat := by
  have hc : (BitVec.ofNat 8 c.val).toNat = c.val := by simp; omega
  simp [State.itemValue, hc]

theorem State.itemValue_descriptor (s : State) (d : DescId) (item : Byte) :
    s.itemValue 2 (BitVec.ofNat 8 d.val) item = (s.descs[d]).getItem item.toNat := by
  have hd : (BitVec.ofNat 8 d.val).toNat = d.val := by simp; omega
  simp [State.itemValue, hd]

/-! ## GET_ITEM and SET_ITEM by their own rules (R158, R159) -/

theorem ruleGetItem_of_some {s : State} {scope index item : Byte} {v : Word} (h : s.itemValue scope index item = some v) :
    ruleGetItem scope index item s =
      ⟨s, .ok, [v.setWidth 8, (v >>> 8).setWidth 8, (v >>> 16).setWidth 8, (v >>> 24).setWidth 8]⟩ := by
  simp only [ruleGetItem, h, leBytes_word]

theorem ruleGetItem_of_not_namesItem (s : State) {scope index item : Byte} (h : namesItem scope index item = false) :
    ruleGetItem scope index item s = ⟨s, .badArgument, []⟩ := by
  simp only [ruleGetItem, (s.itemValue_eq_none_iff scope index item).2 h]

/-- A channel selector past the last channel or the last item is refused before the lock is looked at. -/
theorem ruleChannelSelector_of_not_named (s : State) (v : Word) {index item : Byte}
    (h : ¬ (index.toNat < 12 ∧ item.toNat < 15)) : ruleChannelSelector index item v s = ⟨s, .badArgument, []⟩ := by
  unfold ruleChannelSelector channelOf
  by_cases hindex : index.toNat < 12
  · simp [hindex, show ¬ item.toNat < 15 from fun hitem => h ⟨hindex, hitem⟩]
  · simp [hindex]

theorem ruleDescriptorSelector_of_not_named (s : State) (v : Word) {index item : Byte}
    (h : ¬ (index.toNat < 16 ∧ item.toNat < 7)) : ruleDescriptorSelector index item v s = ⟨s, .badArgument, []⟩ := by
  unfold ruleDescriptorSelector
  by_cases hindex : index.toNat < 16
  · simp [hindex, show ¬ item.toNat < 7 from fun hitem => h ⟨hindex, hitem⟩]
  · simp [hindex]

/-- A SET_ITEM whose selector names no item reaches no owner, whatever the value. -/
theorem ruleSetItem_of_not_namesItem (s : State) (v : Word) {scope index item : Byte}
    (h : namesItem scope index item = false) : ruleSetItem scope index item v s = ⟨s, .badArgument, []⟩ := by
  rw [← Bool.not_eq_true, namesItem_iff] at h
  unfold ruleSetItem
  split
  case h_1 hscope =>
    split
    · next hindex =>
      subst hindex
      split
      case h_5 => rfl
      all_goals exact absurd (.inl ⟨hscope, rfl, by omega⟩) h
    · rfl
  case h_2 hscope => exact ruleChannelSelector_of_not_named s v (by omega)
  case h_3 hscope => exact ruleDescriptorSelector_of_not_named s v (by omega)
  case h_4 => rfl

/-- Settles O9: a selector that names an item has a value to answer; one that names none has no value and no owner. -/
theorem selectorsNameItems : Obligations.SelectorsNameItems := by
  unfold Obligations.SelectorsNameItems
  intro scope index item s names
  have hnone : ¬ names → namesItem scope index item = false := fun h =>
    Bool.not_eq_true _ ▸ mt (namesItem_iff scope index item).1 h
  refine ⟨fun hr => ⟨fun hlast => ⟨fun v hv => ?value, fun hn => ?getRefused⟩, fun v hlast hn => ?setRefused⟩,
    ?absent, namesItem_iff scope index item, rfl, rfl, rfl, rfl,
    fun c => s.itemValue_channel c item, fun d => s.itemValue_descriptor d item⟩
  case value => exact exec_eq_answer rfl (State.row_taken _ hlast hr) (ruleGetItem_of_some hv)
  case getRefused =>
    exact exec_eq_answer rfl (State.row_taken _ hlast hr) (ruleGetItem_of_not_namesItem s (hnone hn))
  case setRefused =>
    exact exec_eq_answer rfl (State.row_taken _ hlast hr) (ruleSetItem_of_not_namesItem s v (hnone hn))
  case absent => rw [s.itemValue_eq_none_iff, ← Bool.not_eq_true, namesItem_iff]

/-! ## Counters (R162) -/

theorem ruleGetCounters_eq (c : ChanId) (s : State) :
    ruleGetCounters c s =
      ⟨s, .ok, (s.chan c).ctr.inOrder.flatMap fun x : Half => [x.setWidth 8, (x >>> 8).setWidth 8]⟩ := by
  simp only [ruleGetCounters, leBytes_half]

/-- Settles O19: the rule of each command for the channel its argument byte spells. -/
theorem countersReadAndCleared : Obligations.CountersReadAndCleared := by
  unfold Obligations.CountersReadAndCleared
  intro c s hr
  refine ⟨fun hlast => ?get, fun hlast => ?clear⟩
  case get =>
    exact exec_eq_answer rfl (State.row_taken _ hlast hr)
      ((withChannel_ofNat c _ s).trans (ruleGetCounters_eq c s))
  case clear =>
    exact exec_eq_answer rfl (State.row_taken _ hlast hr) (withChannel_ofNat c ruleClearCounters s)

/-! ## The Event FIFO (R145, R146, R163) -/

theorem State.evtLow_iff (s : State) : s.evtLow = true ↔ s.rstAsserted = false ∧ s.events ≠ [] := by
  simp [State.evtLow]

theorem State.evtLow_of_no_events {s : State} (h : s.events = []) : s.evtLow = false := by
  simp [State.evtLow, h]

theorem rulePopEvent_of_cons {s : State} {e : EventEntry} {rest : List EventEntry} (h : s.events = e :: rest) :
    rulePopEvent s = ⟨{ s with events := rest }, .ok, e.bytes⟩ := by
  simp only [rulePopEvent, h]

theorem rulePopEvent_of_nil {s : State} (h : s.events = []) : rulePopEvent s = ⟨s, .empty, []⟩ := by
  simp only [rulePopEvent, h]

/-- Settles O20: POP_EVENT by the two shapes of the FIFO; EVT# is low while the FIFO holds an entry. -/
theorem popAndClearEvents : Obligations.PopAndClearEvents := by
  unfold Obligations.PopAndClearEvents
  intro s hr
  refine ⟨fun hlast => ⟨fun e rest hev => ⟨?popped, ?level⟩, fun hev => ⟨?empty, State.evtLow_of_no_events hev⟩⟩,
    fun hlast => ⟨?cleared, State.evtLow_of_no_events rfl⟩⟩
  case popped =>
    have hbytes := rulePopEvent_of_cons hev
    rw [EventEntry.bytes, leBytes_half, leBytes_word] at hbytes
    exact exec_eq_answer rfl (State.row_taken _ hlast hr) hbytes
  case level =>
    rw [State.evtLow_iff]
    exact and_iff_right (State.rstAsserted_of_atLastByte hlast)
  case empty =>
    rw [exec_eq_answer rfl (State.row_taken _ hlast hr) (rulePopEvent_of_nil hev)]
    exact congrArg _ (s.answer_of_ne_ok .popEvent (by decide) _ _)
  case cleared => exact exec_eq_answer rfl (State.row_taken _ hlast hr) rfl

/-! ## Status and time (R164, R165) -/

/-- The flags byte of the status block: OVERFLOW at bit 0, RESETTING at bit 1, by value. -/
theorem statusFlags_eq (resetting overflow : Bool) :
    (0#6 ++ BitVec.ofBool resetting ++ BitVec.ofBool overflow : Byte) =
      BitVec.ofNat 8 ((if overflow then 1 else 0) + (if resetting then 2 else 0)) := by
  revert resetting overflow
  decide

theorem State.length_inUse (s : State) : s.inUse.length = (List.finRange 24).countP fun e => (s.entry e).tx.isSome :=
  List.countP_eq_length_filter.symm

/-- Settles O21: neither command is held back while the part is RESETTING, so each is taken by its rule in every state. -/
theorem statusAndTimeAnswered : Obligations.StatusAndTimeAnswered := by
  unfold Obligations.StatusAndTimeAnswered
  refine ⟨fun s hlast => ?status, fun s hlast => ?time⟩
  case status =>
    have hbytes : ruleGetStatus s = ⟨s, .ok, s.statusBytes⟩ := rfl
    rw [State.statusBytes, statusFlags_eq, s.length_inUse, leBytes_half, leBytes_half] at hbytes
    exact exec_eq_answer rfl (State.row_of_not_held _ hlast rfl) hbytes
  case time =>
    have hbytes : ruleGetTime s = ⟨s, .ok, leBytes 4 s.tick.toNat⟩ := rfl
    rw [leBytes_word] at hbytes
    exact exec_eq_answer rfl (State.row_of_not_held _ hlast rfl) hbytes

end Sys2Proof.Machine
end

section
/-! PROOFS. The Event Unit (08_events_and_counters.md): one event by the room of the FIFO, and the events of one happening as an
order of its blocks. -/

namespace Sys2Proof.Machine

/-! ## The order of one happening's events (R142) -/

/-- A block without events adds none. -/
theorem flatten_filter_not_isEmpty {α : Type} (qs : List (List α)) :
    (qs.filter fun q => !q.isEmpty).flatten = qs.flatten := by
  induction qs with
  | nil => rfl
  | cons q qs ih => cases q <;> simp [ih]

/-- A block with an event left is among the live ones. -/
theorem eq_nil_or_mem_filter {α : Type} {qs : List (List α)} {b : List α} (hb : b ∈ qs) :
    b = [] ∨ b ∈ qs.filter fun q => !q.isEmpty := by
  cases b with
  | nil => exact .inl rfl
  | cons e es => exact .inr (List.mem_filter.2 ⟨hb, rfl⟩)

/-- An order of the events of the blocks, in which the events of each block keep their order. -/
def OrderOf (order : List RawEvent) (blocks : List (List RawEvent)) : Prop :=
  order.Perm blocks.flatten ∧ ∀ b ∈ blocks, b.Sublist order

/-- An order of the blocks that still have events is an order of all. -/
theorem OrderOf.of_live {order : List RawEvent} {qs : List (List RawEvent)}
    (h : OrderOf order (qs.filter fun q => !q.isEmpty)) : OrderOf order qs := by
  refine ⟨flatten_filter_not_isEmpty qs ▸ h.1, fun b hb => ?_⟩
  rcases eq_nil_or_mem_filter hb with rfl | hb
  · exact List.nil_sublist _
  · exact h.2 b hb

/-- One block's first event, put before an order of what is left, gives an order of the whole. -/
theorem OrderOf.cons {order : List RawEvent} {before after' : List (List RawEvent)} {e : RawEvent} {es : List RawEvent}
    (h : OrderOf order (before ++ es :: after')) : OrderOf (e :: order) (before ++ (e :: es) :: after') := by
  obtain ⟨hperm, hsub⟩ := h
  constructor
  · have hmove : (e :: (before ++ es :: after').flatten).Perm (before ++ (e :: es) :: after').flatten := by
      simpa using (List.perm_middle (a := e) (l₁ := before.flatten) (l₂ := es ++ after'.flatten)).symm
    exact (hperm.cons e).trans hmove
  · intro b hb
    rw [List.mem_append, List.mem_cons] at hb
    rcases hb with hb | rfl | hb
    · exact (hsub b (by simp [hb])).cons e
    · exact (hsub es (by simp)).cons_cons e
    · exact (hsub b (by simp [hb])).cons e

/-- Whatever the free choices, the merged list is an order of the blocks, where the fuel bounds the number of events. -/
theorem orderOf_mergeOrder (fuel k : Nat) (qs : List (List RawEvent)) (h : qs.flatten.length ≤ fuel) :
    OrderOf (mergeOrder fuel k qs).1 qs := by
  induction fuel generalizing k qs with
  | zero =>
    have hnil : qs.flatten = [] := List.length_eq_zero_iff.1 (by omega)
    refine ⟨by rw [hnil]; exact .nil, fun b hb => ?_⟩
    rw [List.flatten_eq_nil_iff.1 hnil b hb]
    exact List.nil_sublist _
  | succ fuel ih =>
    refine OrderOf.of_live ?_
    rw [← flatten_filter_not_isEmpty] at h
    have hlive : ∀ q ∈ qs.filter (fun q => !q.isEmpty), q ≠ [] := by simp
    unfold mergeOrder
    generalize qs.filter (fun q => !q.isEmpty) = live at h hlive
    match live with
    | [] => exact ⟨.nil, by simp⟩
    | [q] => exact ⟨by simp, by simp⟩
    | q :: q' :: rest =>
      dsimp only
      generalize hlen : (q :: q' :: rest) = live at h hlive
      have hi : Config.eventOrder k % live.length < live.length := Nat.mod_lt _ (by simp [← hlen])
      generalize Config.eventOrder k % live.length = i at hi
      obtain ⟨e, es, hget⟩ := List.exists_cons_of_ne_nil (hlive live[i] (List.getElem_mem hi))
      obtain ⟨before, after', hsplit, -, hset⟩ := List.exists_of_set (a' := es) hi
      rw [List.getElem?_eq_getElem hi, hget]
      rw [hget] at hsplit
      dsimp only
      rw [hset]
      rw [hsplit] at h ⊢
      exact (ih (k + 1) _ (by simp at h ⊢; omega)).cons

/-- The events of one happening are taken in an order of its blocks. -/
theorem State.raise_eq (s : State) (blocks : List (List RawEvent)) : ∃ order k,
    s.raise blocks = order.foldl State.logEvent { s with choice := k } ∧ OrderOf order blocks :=
  ⟨_, _, rfl, orderOf_mergeOrder _ _ _ le_rfl⟩

/-! ## One event (R142 to R144) -/

theorem satInc_byte (x : Byte) : satInc x = BitVec.ofNat 8 (min 255 (x.toNat + 1)) := by
  apply BitVec.eq_of_toNat_eq
  rw [satInc_toNat, BitVec.toNat_ofNat]
  omega

theorem State.logEvent_of_masked {s : State} {e : RawEvent} (h : kindEnabled s.eventMask e.kind = false) :
    s.logEvent e = s := by
  simp [State.logEvent, h]

theorem State.logEvent_of_room {s : State} {e : RawEvent} (h : kindEnabled s.eventMask e.kind = true)
    (hroom : s.events.length < 32) :
    s.logEvent e = { s with events := s.events ++ [⟨e.kind, e.chan, s.tick, e.detail⟩] } := by
  simp [State.logEvent, h, hroom]

theorem State.logEvent_of_full {s : State} {e : RawEvent} (h : kindEnabled s.eventMask e.kind = true)
    (hfull : 32 ≤ s.events.length) :
    s.logEvent e = { s with overflow := true, droppedEvents := satInc s.droppedEvents } := by
  simp [State.logEvent, h, Nat.not_lt.2 hfull]

/-- Settles O22: one event by the mask and the room, and every order of the merge is an order of the blocks. -/
theorem eventsTakenWhole : Obligations.EventsTakenWhole := by
  unfold Obligations.EventsTakenWhole
  refine ⟨fun e s => ⟨State.logEvent_of_masked, State.logEvent_of_room, fun h hfull => ?full⟩, fun blocks s => ?order⟩
  case full => rw [State.logEvent_of_full h hfull, satInc_byte]
  case order =>
    obtain ⟨order, k, hraise, hperm, hsub⟩ := s.raise_eq blocks
    exact ⟨order, k, hraise, hperm, hsub⟩

/-! ## The events of two and three blocks -/

/-- A block without events leaves the other alone, with no free choice. -/
theorem State.raise_pair_nil (s : State) (q : List RawEvent) : s.raise [q, []] = s.logAll q := by
  unfold State.raise
  cases q with
  | nil => rfl
  | cons e es => simp [mergeOrder]

theorem State.raise_nil_pair (s : State) (q : List RawEvent) : s.raise [[], q] = s.logAll q := by
  unfold State.raise
  cases q with
  | nil => rfl
  | cons e es => simp [mergeOrder]

theorem State.logAll_singleton (s : State) (e : RawEvent) : s.logAll [e] = s.logEvent e := rfl

end Sys2Proof.Machine
end

section
/-! PROOFS. The step, the pins and the SPI frame (9.1, 9.6): the table of R153, the byte that takes a command, the response
shifted out, and the checks every command has in common (R157). -/

namespace Sys2Proof.Machine

/-! ## The step and the pin reset -/

/-- Settles O1: the step by the two shapes of the queue. -/
theorem stepTakesFrontCommand : Obligations.StepTakesFrontCommand := by
  unfold Obligations.StepTakesFrontCommand
  exact ⟨fun c rest s h => by simp only [step, h], fun s h => by simp only [step, h]⟩

/-- While RST# is asserted its release resumes from the pin-reset state; otherwise it changes nothing. -/
theorem exec_pinResetRelease (s : State) : exec .pinResetRelease s =
    .next (if s.rstAsserted then { s.pinCleared with rstAsserted := false } else s) := rfl

/-- Settles O3: the pin-reset state with what is outside the part, by the two commands. -/
theorem pinResetHoldsResetState : Obligations.PinResetHoldsResetState := by
  unfold Obligations.PinResetHoldsResetState
  exact ⟨fun s => rfl, fun s h => by rw [exec_pinResetRelease, if_pos h]; rfl⟩

theorem State.chan_reset (c : ChanId) : State.reset.chan c = Channel.reset := by
  simp [State.chan, State.reset]

theorem State.descs_reset (d : DescId) : State.reset.descs[d] = Descriptor.reset := by
  simp [State.reset]

theorem State.entry_reset (e : EntryId) : State.reset.entry e = ⟨0, none⟩ := by
  simp [State.entry, State.reset]

theorem kindEnabled_allOnes (k : EventKind) : kindEnabled (BitVec.allOnes 15) k = true := by
  cases k <;> rfl

/-- Settles O4: every channel, descriptor and entry of the reset state is the same, and the other values are read off. -/
theorem resetValuesOfThePart : Obligations.ResetValuesOfThePart := by
  unfold Obligations.ResetValuesOfThePart
  refine ⟨fun c => ?cfg, fun c => ?rt, fun c => ?ctr, State.descs_reset, State.entry_reset, rfl, rfl, rfl, rfl,
    kindEnabled_allOnes, rfl, rfl, rfl, rfl, rfl, rfl, rfl, rfl, rfl, rfl, rfl, rfl, rfl, rfl⟩
  all_goals rw [State.chan_reset]; rfl

/-! ## The SPI frame (R153) -/

/-- A byte outside pin reset, by the frame state it meets. -/
theorem exec_spiByte {s : State} (hr : s.rstAsserted = false) (b : Byte) : exec (.spiByte b) s =
    .next (match s.mgmt.frame with
      | .idle => s
      | .command => s.commandByte b
      | .arguments => s.argumentByte b
      | .response => s.responseByte
      | .trailing => { s with misoOut := s.misoOut ++ [0] }) := by
  simp only [exec, execSpiByte, hr]
  rfl

theorem State.commandByte_of_code (s : State) (cmd : Cmd) : s.commandByte cmd.code =
    if cmd.argBytes = 0 then s.takeCommand cmd (ruleOf cmd [])
    else { s with mgmt := ⟨.arguments, cmd.code, [], []⟩, misoOut := s.misoOut ++ [0] } := by
  simp only [State.commandByte, Cmd.ofCode_code]

theorem State.argumentByte_of_cmd {s : State} {cmd : Cmd} (h : s.mgmt.cmd = cmd.code) (b : Byte) : s.argumentByte b =
    if (s.mgmt.args ++ [b]).length < cmd.argBytes then
      { s with mgmt := { s.mgmt with args := s.mgmt.args ++ [b] }, misoOut := s.misoOut ++ [0] }
    else s.takeCommand cmd (ruleOf cmd (s.mgmt.args ++ [b])) := by
  simp only [State.argumentByte, h, Cmd.ofCode_code]

/-- Settles O5: the edges of CS# and the bytes that take no command, by frame state. -/
theorem spiFrameTable : Obligations.SpiFrameTable := by
  unfold Obligations.SpiFrameTable
  refine ⟨fun s hcs hr hf => ?fall, fun s hcs hr => ?fallHeld, fun s hcs => ?rise, fun b s h => ?ignored,
    fun b s cmd hr hf hb hargs => ?first, fun b s cmd hr hf hc hargs => ?argument, fun b s hr hf => ?trailing⟩
  case fall => simp only [exec, execCsFall, hcs, hr, hf]; rfl
  case fallHeld => simp only [exec, execCsFall, hcs, hr]; rfl
  case rise => simp only [exec, execCsRise, hcs]; rfl
  case ignored =>
    cases hr : s.rstAsserted with
    | true => simp only [exec, execSpiByte, hr]; rfl
    | false =>
      have hf : s.mgmt.frame = .idle := h.resolve_left (by simp [hr])
      rw [exec_spiByte hr, hf]
  case first =>
    subst hb
    rw [exec_spiByte hr, hf]
    dsimp only
    rw [State.commandByte_of_code, if_neg (by omega)]
  case argument =>
    rw [exec_spiByte hr, hf]
    dsimp only
    rw [State.argumentByte_of_cmd hc, if_pos (by simpa using hargs)]
  case trailing => rw [exec_spiByte hr, hf]

/-! ## The byte that completes a command (R155) -/

/-- The last byte of a command without arguments is its command byte. -/
theorem State.row_of_command {s : State} (hr : s.rstAsserted = false) (hf : s.mgmt.frame = .command) (cmd : Cmd)
    (rule : State → Answer) : s.row cmd [] rule = s.takeCommand cmd rule := by
  simp [State.row, State.atLastByte, hr, hf]

/-- The last byte of a command with arguments comes when the others have been received. -/
theorem State.row_of_arguments {s : State} {cmd : Cmd} (hr : s.rstAsserted = false) (hf : s.mgmt.frame = .arguments)
    (hc : s.mgmt.cmd = cmd.code) (b : Byte) (rule : State → Answer) :
    s.row cmd (s.mgmt.args ++ [b]) rule = s.takeCommand cmd rule := by
  simp [State.row, State.atLastByte, hr, hf, hc]

/-- The command byte of a command without arguments does what its row does. -/
theorem exec_spiByte_command {s : State} (hr : s.rstAsserted = false) (hf : s.mgmt.frame = .command) (cmd : Cmd)
    (hargs : cmd.argBytes = 0) : exec (.spiByte cmd.code) s = .next (s.row cmd [] (ruleOf cmd [])) := by
  rw [exec_spiByte hr, hf, State.row_of_command hr hf]
  dsimp only
  rw [State.commandByte_of_code, if_pos hargs]

/-- The last argument byte of a command does what its row does. -/
theorem exec_spiByte_argument {s : State} {cmd : Cmd} (hr : s.rstAsserted = false) (hf : s.mgmt.frame = .arguments)
    (hc : s.mgmt.cmd = cmd.code) {b : Byte} {args : List Byte} (hargs : s.mgmt.args ++ [b] = args)
    (hlen : args.length = cmd.argBytes) : exec (.spiByte b) s = .next (s.row cmd args (ruleOf cmd args)) := by
  subst hargs
  rw [exec_spiByte hr, hf, State.row_of_arguments hr hf hc]
  dsimp only
  rw [State.argumentByte_of_cmd hc, if_neg (by omega)]

/-- A value's bytes, the least significant one first. -/
theorem leBytes_succ (n x : Nat) : leBytes (n + 1) x = BitVec.ofNat 8 x :: leBytes n (x / 256) := by
  simp only [leBytes, List.range_succ_eq_map, List.map_cons, List.map_map, Nat.pow_zero, Nat.div_one]
  congr 1
  refine List.map_congr_left fun i _ => ?_
  simp [Function.comp, Nat.pow_succ', Nat.div_div_eq_div_mul]

/-- Bytes are read back from the value they spell. -/
theorem leBytes_leNat (bs : List Byte) : leBytes bs.length (leNat bs) = bs := by
  induction bs with
  | nil => rfl
  | cons b bs ih =>
    have hb := b.isLt
    have hrest : leNat (b :: bs) / 256 = leNat bs := by rw [leNat]; omega
    have hfirst : BitVec.ofNat 8 (leNat (b :: bs)) = b := by
      apply BitVec.eq_of_toNat_eq
      rw [leNat, BitVec.toNat_ofNat]
      omega
    rw [List.length_cons, leBytes_succ, hrest, hfirst, ih]

/-- Four bytes put together, the last the lowest, spell their number. -/
theorem toNat_append_bytes (v0 v1 v2 v3 : Byte) : (v3 ++ v2 ++ v1 ++ v0 : Word).toNat = leNat [v0, v1, v2, v3] := by
  simp only [leNat, BitVec.toNat_append]
  rw [← Nat.shiftLeft_add_eq_or_of_lt v0.isLt, ← Nat.shiftLeft_add_eq_or_of_lt v1.isLt,
    ← Nat.shiftLeft_add_eq_or_of_lt v2.isLt]
  simp only [Nat.shiftLeft_eq]
  omega

theorem ofNat_leNat_bytes (v0 v1 v2 v3 : Byte) :
    (BitVec.ofNat 32 (leNat [v0, v1, v2, v3]) : Word) = v3 ++ v2 ++ v1 ++ v0 := by
  rw [← toNat_append_bytes, BitVec.ofNat_toNat, BitVec.setWidth_eq]

/-- The argument bytes of a SET_ITEM, the value's bytes least significant first (R153, R174). -/
theorem setBytes_append (scope index item v0 v1 v2 v3 : Byte) :
    setBytes scope index item (v3 ++ v2 ++ v1 ++ v0) = [scope, index, item, v0, v1, v2, v3] := by
  rw [setBytes, toNat_append_bytes]
  exact congrArg _ (leBytes_leNat [v0, v1, v2, v3])

/-- The last value byte of a SET_ITEM does what the row of the item's SET does, where the item's rule is that row's. -/
theorem exec_spiByte_setItem {s : State} {scope index item v0 v1 v2 v3 : Byte} (hr : s.rstAsserted = false)
    (hf : s.mgmt.frame = .arguments) (hc : s.mgmt.cmd = 0x02) (ha : s.mgmt.args = [scope, index, item, v0, v1, v2])
    {rule : State → Answer} (hrule : ruleSetItem scope index item (v3 ++ v2 ++ v1 ++ v0) = rule) :
    exec (.spiByte v3) s = .next (s.row .setItem (setBytes scope index item (v3 ++ v2 ++ v1 ++ v0)) rule) := by
  rw [setBytes_append, exec_spiByte_argument (cmd := .setItem) hr hf hc (by simp [ha]; rfl) rfl, ← hrule,
    ← ofNat_leNat_bytes]
  rfl

/-- Settles O6: a byte that completes a command is its last argument byte, or its command byte where it has none. -/
theorem lastByteTakesTheCommand : Obligations.LastByteTakesTheCommand := by
  unfold Obligations.LastByteTakesTheCommand
  intro s hr
  refine ⟨fun hf => ?command, fun hf ha b => ?channel, fun scope index item hf hc ha => ?get,
    fun scope index item v0 v1 v2 v3 hf hc ha => ?set⟩
  case command =>
    refine ⟨exec_spiByte_command hr hf .popEvent rfl, exec_spiByte_command hr hf .clearEvents rfl,
      exec_spiByte_command hr hf .getStatus rfl, exec_spiByte_command hr hf .getTime rfl,
      exec_spiByte_command hr hf .softReset rfl, fun b hb => ?_⟩
    rw [exec_spiByte hr, hf]
    simp only [State.commandByte, exec, execBadCommand, Cmd.ofCode_eq_none hb, hr, hf, and_self, if_true]
  case channel =>
    have hargs : s.mgmt.args ++ [b] = [b] := by rw [ha]; rfl
    exact ⟨fun hc => exec_spiByte_argument (cmd := .enable) hr hf hc hargs rfl,
      fun hc => exec_spiByte_argument (cmd := .disable) hr hf hc hargs rfl,
      fun hc => exec_spiByte_argument (cmd := .getState) hr hf hc hargs rfl,
      fun hc => exec_spiByte_argument (cmd := .getCounters) hr hf hc hargs rfl,
      fun hc => exec_spiByte_argument (cmd := .clearCounters) hr hf hc hargs rfl⟩
  case get => exact exec_spiByte_argument (cmd := .getItem) hr hf hc (by simp [ha]) rfl
  case set =>
    refine ⟨exec_spiByte_setItem hr hf hc ha rfl, ?_, ?_, ?_⟩
    · rintro rfl
      exact exec_spiByte_setItem hr hf hc ha rfl
    · rintro rfl
      exact exec_spiByte_setItem hr hf hc ha rfl
    · rintro rfl rfl
      refine ⟨?_, ?_, ?_, ?_⟩ <;> rintro rfl <;> exact exec_spiByte_setItem hr hf hc ha rfl

/-! ## The response (R153) -/

/-- One byte time in RESPONSE, before the last response byte and at it. -/
theorem step_response {s : State} {m x : Byte} {xs : List Byte} {rest : List Instr} (hr : s.rstAsserted = false)
    (hf : s.mgmt.frame = .response) (hresp : s.mgmt.resp = x :: xs) (hp : s.pending = .spiByte m :: rest) :
    step s = .next { s with
      pending := rest
      mgmt := { s.mgmt with frame := if xs = [] then .trailing else .response, resp := xs }
      misoOut := s.misoOut ++ [x] } := by
  simp only [step, hp]
  refine (exec_spiByte (s := { s with pending := rest }) hr m).trans ?_
  simp only [hf, State.responseByte, hresp]
  cases xs with
  | nil => rfl
  | cons y ys => simp [← hf]

theorem core_run_succ {s t : State} (k : Nat) (h : step s = .next t) :
    Sys2Proof.core.run (k + 1) s = Sys2Proof.core.run k t := by
  have hstep : Sys2Proof.core.step s = .next t := h
  simp only [Host.Core.run, hstep]

/-- Settles O7, by induction on the response bytes. -/
theorem responseShiftsOutInOrder : Obligations.ResponseShiftsOutInOrder := by
  unfold Obligations.ResponseShiftsOutInOrder
  intro mosi
  induction mosi with
  | nil =>
    intro rest s _ _ hne hlen _
    exact absurd (List.length_eq_zero_iff.1 hlen.symm) hne
  | cons m ms ih =>
    intro rest s hr hf hne hlen hp
    obtain ⟨x, xs, hresp⟩ := List.exists_cons_of_ne_nil hne
    rw [List.length_cons, core_run_succ _ (step_response hr hf hresp hp)]
    rw [hresp, List.length_cons, List.length_cons] at hlen
    cases xs with
    | nil =>
      obtain rfl : ms = [] := List.length_eq_zero_iff.1 (by simpa using hlen)
      simp [Host.Core.run, hresp]
    | cons y ys =>
      refine (ih rest _ ?_ ?_ ?_ ?_ rfl).trans ?_
      · exact hr
      · simp
      · simp
      · simpa using hlen
      · simp [hresp]

/-! ## The common checks (R157) -/

/-- A row taken while the part is RESETTING has no effect but the answer. -/
theorem exec_eq_resetting {i : Instr} {s : State} {cmd : Cmd} {args : List Byte} {rule : State → Answer}
    (hrow : exec i s = .next (s.row cmd args rule)) (hr : s.resetting = true) (hc : cmd.heldByReset = true)
    (hlast : s.atLastByte cmd args = true) : exec i s = .next (s.answer cmd .resetting []) := by
  rw [hrow, State.row_resetting rule hlast hr hc]

/-- A channel argument above 11 has no effect but the answer. -/
theorem exec_eq_badArgument {i : Instr} {s : State} {cmd : Cmd} {b : Byte} {rule : ChanId → State → Answer}
    (hrow : exec i s = .next (s.row cmd [b] (withChannel b rule))) (hr : s.resetting = false) (hb : 12 ≤ b.toNat)
    (hlast : s.atLastByte cmd [b] = true) : exec i s = .next (s.answer cmd .badArgument []) := by
  refine exec_eq_answer hrow (State.row_taken _ hlast hr) ?_
  rcases withChannel_spec b rule s with ⟨-, h⟩ | ⟨h, -⟩
  · exact h
  · omega

/-- Settles O8: the three checks, each for every command it meets. -/
theorem commonChecksRefuse : Obligations.CommonChecksRefuse := by
  unfold Obligations.CommonChecksRefuse
  refine ⟨fun code s hr hf hcode => ?bad, fun s hr => ⟨fun a b c => ?get, fun a b c v hlast => ?set, fun b => ?channel,
    ?pop, ?clear, ?reset⟩, fun b s hr hb => ?argument⟩
  case bad =>
    exact congrArg Host.Outcome.next (if_pos ⟨hr, hf, Cmd.ofCode_eq_none hcode⟩)
  case get => exact exec_eq_resetting rfl hr rfl
  case set =>
    refine ⟨exec_eq_resetting rfl hr rfl hlast, ?_, ?_, ?_, ?_, ?_, ?_⟩
    · rintro rfl; exact exec_eq_resetting rfl hr rfl hlast
    · rintro rfl; exact exec_eq_resetting rfl hr rfl hlast
    all_goals rintro rfl rfl rfl; exact exec_eq_resetting rfl hr rfl hlast
  case channel =>
    exact ⟨exec_eq_resetting rfl hr rfl, exec_eq_resetting rfl hr rfl, exec_eq_resetting rfl hr rfl,
      exec_eq_resetting rfl hr rfl, exec_eq_resetting rfl hr rfl⟩
  case pop => exact exec_eq_resetting rfl hr rfl
  case clear => exact exec_eq_resetting rfl hr rfl
  case reset => exact exec_eq_resetting rfl hr rfl
  case argument =>
    exact ⟨exec_eq_badArgument rfl hr hb, exec_eq_badArgument rfl hr hb, exec_eq_badArgument rfl hr hb,
      exec_eq_badArgument rfl hr hb, exec_eq_badArgument rfl hr hb⟩

end Sys2Proof.Machine
end

section
/-! PROOFS. The items (9.2, 10.4): the packed forms of SCHEDULE and FIELD, what a SET of an item does to the items, and the
SET_ITEM of each owner. -/

namespace Sys2Proof.Machine

/-! ## Bits of a packed word -/

theorem toNat_extractLsb' (v : Word) (start len : Nat) : (v.extractLsb' start len).toNat = v.toNat / 2 ^ start % 2 ^ len := by
  rw [BitVec.extractLsb'_toNat, Nat.shiftRight_eq_div_pow]

theorem getLsbD_eq_decide (v : Word) (k : Nat) : v.getLsbD k = decide (v.toNat / 2 ^ k % 2 = 1) := by
  rw [← BitVec.testBit_toNat, Nat.testBit_eq_decide_div_mod_eq]

theorem getLsbD_eq_false_iff (v : Word) (k : Nat) : v.getLsbD k = false ↔ v.toNat / 2 ^ k % 2 = 0 := by
  rw [getLsbD_eq_decide, decide_eq_false_iff_not]
  omega

/-- A word meets no bit of a mask exactly when it is 0 at every bit of it. -/
theorem and_eq_zero_iff (v mask : Word) :
    v &&& mask = 0 ↔ ∀ k < 32, mask.getLsbD k = true → v.getLsbD k = false := by
  constructor
  · intro h k _ hk
    have := congrArg (·.getLsbD k) h
    simpa [hk] using this
  · intro h
    apply BitVec.eq_of_getLsbD_eq
    intro k hk
    have := h k hk
    cases hm : mask.getLsbD k <;> simp_all

theorem and_scheduleZeroBits_iff (v : Word) : v &&& scheduleZeroBits = 0 ↔
    ∀ k ∈ [5, 11, 17, 23, 27, 28, 29, 30, 31], v.getLsbD k = false := by
  have hmask : ∀ k < 32, scheduleZeroBits.getLsbD k = true ↔ k ∈ [5, 11, 17, 23, 27, 28, 29, 30, 31] := by decide
  have hbound : ∀ k ∈ [5, 11, 17, 23, 27, 28, 29, 30, 31], k < 32 := by decide
  rw [and_eq_zero_iff]
  exact ⟨fun h k hk => h k (hbound k hk) ((hmask k (hbound k hk)).2 hk), fun h k hk hm => h k ((hmask k hk).1 hm)⟩

theorem and_fieldZeroBits_iff (v : Word) : v &&& fieldZeroBits = 0 ↔
    ∀ k ∈ [6, 7, 13, 14, 15, 22, 23, 26, 27, 28, 29, 30, 31], v.getLsbD k = false := by
  have hmask : ∀ k < 32, fieldZeroBits.getLsbD k = true ↔ k ∈ [6, 7, 13, 14, 15, 22, 23, 26, 27, 28, 29, 30, 31] := by
    decide
  have hbound : ∀ k ∈ [6, 7, 13, 14, 15, 22, 23, 26, 27, 28, 29, 30, 31], k < 32 := by decide
  rw [and_eq_zero_iff]
  exact ⟨fun h k hk => h k (hbound k hk) ((hmask k (hbound k hk)).2 hk), fun h k hk hm => h k ((hmask k hk).1 hm)⟩

/-! ## SCHEDULE (R3, R177) -/

theorem unpackSchedule_eq (v : Word) : unpackSchedule v =
    if (∀ k ∈ [5, 11, 17, 23, 27, 28, 29, 30, 31], v.getLsbD k = false)
        ∧ 1 ≤ v.toNat / 2 ^ 24 % 8 ∧ v.toNat / 2 ^ 24 % 8 ≤ 4 then
      some ⟨v.toNat / 2 ^ 24 % 8, scheduleSteps v (v.toNat / 2 ^ 24 % 8)⟩
    else none := by
  simp only [unpackSchedule, toNat_extractLsb', and_scheduleZeroBits_iff]
  rfl

theorem scheduleSteps_get (v : Word) (len : Nat) (k : Fin 4) :
    (scheduleSteps v len)[k] = if k.val < len then stepOf v k.val else ⟨0, .position⟩ := by
  simp [scheduleSteps]

theorem packStep_lt (s : SchedStep) : packStep s < 32 := by
  have := s.desc.isLt
  unfold packStep
  cases s.kind <;> simp <;> omega

/-- The number a schedule packs to, with its steps as numbers. -/
theorem packSchedule_toNat {sch : Schedule} (h : sch.len ≤ 4) : (packSchedule sch).toNat =
    packStep sch.steps[0] + 64 * packStep sch.steps[1] + 4096 * packStep sch.steps[2]
      + 262144 * packStep sch.steps[3] + 16777216 * sch.len := by
  have h0 := packStep_lt sch.steps[0]
  have h1 := packStep_lt sch.steps[1]
  have h2 := packStep_lt sch.steps[2]
  have h3 := packStep_lt sch.steps[3]
  rw [packSchedule, BitVec.toNat_ofNat, Nat.mod_eq_of_lt (by omega)]

/-- The six bits at a step's place. -/
theorem packSchedule_step {sch : Schedule} (h : sch.len ≤ 4) (k : Fin 4) :
    (packSchedule sch).toNat / 2 ^ (6 * k.val) % 64 = packStep sch.steps[k] := by
  have h0 := packStep_lt sch.steps[0]
  have h1 := packStep_lt sch.steps[1]
  have h2 := packStep_lt sch.steps[2]
  have h3 := packStep_lt sch.steps[3]
  rw [packSchedule_toNat h]
  match k with
  | 0 => simp; omega
  | 1 => simp; omega
  | 2 => simp; omega
  | 3 => simp; omega

/-- A step is read from six bits that are its own. -/
theorem stepOf_eq {v : Word} {k : Nat} {s : SchedStep} (h : v.toNat / 2 ^ (6 * k) % 64 = packStep s) : stepOf v k = s := by
  obtain ⟨d, kind⟩ := s
  have hd := d.isLt
  have hdesc : v.toNat / 2 ^ (6 * k) % 2 ^ 4 = d.val := by
    cases kind <;> simp [packStep] at h <;> omega
  have hbit : v.toNat / 2 ^ (6 * k + 4) % 2 = if kind = .aux then 1 else 0 := by
    rw [Nat.pow_add, ← Nat.div_div_eq_div_mul]
    cases kind <;> simp [packStep] at h ⊢ <;> omega
  have hfin : (v.extractLsb' (6 * k) 4).toFin = d := by
    apply Fin.ext
    rw [BitVec.val_toFin, toNat_extractLsb', hdesc]
  unfold stepOf
  rw [hfin, getLsbD_eq_decide, hbit]
  cases kind <;> rfl

/-- Every schedule in range is read back from its word. -/
theorem unpackSchedule_packSchedule {sch : Schedule} (h1 : 1 ≤ sch.len) (h4 : sch.len ≤ 4)
    (habove : ∀ k : Fin 4, sch.len ≤ k.val → sch.steps[k] = ⟨0, .position⟩) :
    unpackSchedule (packSchedule sch) = some sch := by
  have hlen : (packSchedule sch).toNat / 2 ^ 24 % 8 = sch.len := by
    have h0 := packStep_lt sch.steps[0]
    have h1 := packStep_lt sch.steps[1]
    have h2 := packStep_lt sch.steps[2]
    have h3 := packStep_lt sch.steps[3]
    rw [packSchedule_toNat h4]
    omega
  have hzeros : ∀ k ∈ [5, 11, 17, 23, 27, 28, 29, 30, 31], (packSchedule sch).getLsbD k = false := by
    have h0 := packStep_lt sch.steps[0]
    have h1 := packStep_lt sch.steps[1]
    have h2 := packStep_lt sch.steps[2]
    have h3 := packStep_lt sch.steps[3]
    simp only [getLsbD_eq_false_iff, packSchedule_toNat h4, List.forall_mem_cons]
    refine ⟨?_, ?_, ?_, ?_, ?_, ?_, ?_, ?_, ?_, by simp⟩ <;> omega
  rw [unpackSchedule_eq, hlen, if_pos ⟨hzeros, h1, h4⟩]
  congr 2
  apply Vector.ext
  intro k hk
  have hget := scheduleSteps_get (packSchedule sch) sch.len ⟨k, hk⟩
  simp only [Fin.getElem_fin] at hget
  rw [hget]
  split
  · exact stepOf_eq (packSchedule_step h4 ⟨k, hk⟩)
  · exact (habove ⟨k, hk⟩ (Nat.not_lt.1 ‹_›)).symm

/-! ## FIELD (R23, R177) -/

theorem Role.ofCode_code (r : Role) : Role.ofCode r.code = some r := by cases r <;> rfl

theorem Role.code_le (r : Role) : r.code ≤ 5 := by cases r <;> simp [Role.code]

theorem Role.code_of_ofCode {n : Nat} {r : Role} (h : Role.ofCode n = some r) : r.code = n := by
  unfold Role.ofCode at h
  split at h <;> simp at h <;> subst h <;> rfl

theorem Role.ofCode_eq_none_iff (n : Nat) : Role.ofCode n = none ↔ 6 ≤ n := by
  match n with
  | 0 | 1 | 2 | 3 | 4 | 5 => simp [Role.ofCode]
  | n + 6 => simp [Role.ofCode]

theorem Encoding.ofCode_code (e : Encoding) : Encoding.ofCode e.code = some e := by cases e <;> rfl

theorem Encoding.code_le (e : Encoding) : e.code ≤ 2 := by cases e <;> simp [Encoding.code]

theorem Encoding.code_of_ofCode {n : Nat} {e : Encoding} (h : Encoding.ofCode n = some e) : e.code = n := by
  unfold Encoding.ofCode at h
  split at h <;> simp at h <;> subst h <;> rfl

theorem Encoding.ofCode_eq_none_iff (n : Nat) : Encoding.ofCode n = none ↔ 3 ≤ n := by
  match n with
  | 0 | 1 | 2 => simp [Encoding.ofCode]
  | n + 3 => simp [Encoding.ofCode]

/-- The zero bits of a FIELD word are 0. -/
def fieldZeros (v : Word) : Prop :=
  ∀ k ∈ [6, 7, 13, 14, 15, 22, 23, 26, 27, 28, 29, 30, 31], v.getLsbD k = false

theorem unpackField_of_not_zeros {v : Word} (h : ¬ fieldZeros v) : unpackField v = none := by
  rw [fieldZeros, ← and_fieldZeroBits_iff] at h
  rw [unpackField, if_pos h]

theorem unpackField_of_absent {v : Word} (h : fieldZeros v) (hp : v.getLsbD 0 = false) : unpackField v = some none := by
  rw [fieldZeros, ← and_fieldZeroBits_iff] at h
  rw [unpackField, if_neg (not_not_intro h), if_pos hp]

/-- A word with the presence bit and no zero bit set: the slot its parts spell, if they are in range. -/
theorem unpackField_of_present {v : Word} (h : fieldZeros v) (hp : v.getLsbD 0 = true) : unpackField v =
    match Role.ofCode (v.toNat / 2 % 8), Encoding.ofCode (v.toNat / 2 ^ 24 % 4) with
    | some role, some enc =>
      if 1 ≤ v.toNat / 2 ^ 16 % 64 ∧ v.toNat / 2 ^ 16 % 64 ≤ 32 then
        some (some ⟨role, v.toNat / 2 ^ 4 % 4, v.toNat / 2 ^ 8 % 32, v.toNat / 2 ^ 16 % 64, enc⟩)
      else none
    | _, _ => none := by
  rw [fieldZeros, ← and_fieldZeroBits_iff] at h
  rw [unpackField, if_neg (not_not_intro h), if_neg (by simp only [hp, Bool.true_eq_false, not_false_eq_true])]
  simp only [toNat_extractLsb']
  rfl

/-- A FIELD word with a present slot spells the slot: its zero bits are 0 and its parts stand at their bits. -/
theorem unpackField_eq_some_some_iff (v : Word) (f : FieldSlot) : unpackField v = some (some f) ↔
    fieldZeros v ∧ v.getLsbD 0 = true ∧ Role.ofCode (v.toNat / 2 % 8) = some f.role
      ∧ Encoding.ofCode (v.toNat / 2 ^ 24 % 4) = some f.encoding
      ∧ 1 ≤ v.toNat / 2 ^ 16 % 64 ∧ v.toNat / 2 ^ 16 % 64 ≤ 32
      ∧ f.word = v.toNat / 2 ^ 4 % 4 ∧ f.start = v.toNat / 2 ^ 8 % 32 ∧ f.width = v.toNat / 2 ^ 16 % 64 := by
  by_cases hz : fieldZeros v
  case neg => simp only [unpackField_of_not_zeros hz, hz, reduceCtorEq, false_and]
  cases hp : v.getLsbD 0 with
  | false => simp only [unpackField_of_absent hz hp, Option.some.injEq, reduceCtorEq, false_and, and_false]
  | true =>
    rw [unpackField_of_present hz hp]
    obtain ⟨role, word, start, width, enc⟩ := f
    cases hr : Role.ofCode (v.toNat / 2 % 8) with
    | none => simp only [reduceCtorEq, false_and, and_false]
    | some r =>
      cases he : Encoding.ofCode (v.toNat / 2 ^ 24 % 4) with
      | none => simp only [reduceCtorEq, false_and, and_false]
      | some e =>
        dsimp only
        split
        · simp only [Option.some.injEq, FieldSlot.mk.injEq]
          tauto
        · simp only [Option.some.injEq, reduceCtorEq, false_iff]
          tauto

theorem unpackField_eq_some_none_iff (v : Word) : unpackField v = some none ↔ fieldZeros v ∧ v.getLsbD 0 = false := by
  by_cases hz : fieldZeros v
  case neg => simp only [unpackField_of_not_zeros hz, hz, reduceCtorEq, false_and]
  cases hp : v.getLsbD 0 with
  | false => simp only [unpackField_of_absent hz hp, hz, and_self]
  | true =>
    rw [unpackField_of_present hz hp]
    split
    · split <;> simp
    · simp

/-- A FIELD word is out of range where a zero bit is 1, or a part of a present slot is out of its own range. -/
theorem unpackField_eq_none_iff (v : Word) : unpackField v = none ↔ ¬ fieldZeros v ∨ (v.getLsbD 0 = true
    ∧ (6 ≤ v.toNat / 2 % 8 ∨ v.toNat / 2 ^ 16 % 64 = 0 ∨ 33 ≤ v.toNat / 2 ^ 16 % 64 ∨ v.toNat / 2 ^ 24 % 4 = 3)) := by
  by_cases hz : fieldZeros v
  case neg => simp only [unpackField_of_not_zeros hz, hz, not_false_eq_true, true_or]
  cases hp : v.getLsbD 0 with
  | false =>
    simp only [unpackField_of_absent hz hp, hz, reduceCtorEq, not_true_eq_false, false_or, Bool.false_eq_true, false_and]
  | true =>
    rw [unpackField_of_present hz hp]
    have hrole := Role.ofCode_eq_none_iff (v.toNat / 2 % 8)
    have henc := Encoding.ofCode_eq_none_iff (v.toNat / 2 ^ 24 % 4)
    cases hr : Role.ofCode (v.toNat / 2 % 8) with
    | none => simp [hz, hrole.1 hr]
    | some r =>
      cases he : Encoding.ofCode (v.toNat / 2 ^ 24 % 4) with
      | none =>
        have := henc.1 he
        simp only [hz, not_true_eq_false, true_and, false_or, true_iff]
        omega
      | some e =>
        have hr' : ¬ 6 ≤ v.toNat / 2 % 8 := by simp [← hrole, hr]
        have he' : ¬ 3 ≤ v.toNat / 2 ^ 24 % 4 := by simp only [← henc, he, reduceCtorEq, not_false_eq_true]
        dsimp only
        split
        · simp only [hz, reduceCtorEq, not_true_eq_false, true_and, false_or, false_iff]
          omega
        · simp only [hz, not_true_eq_false, true_and, false_or, true_iff]
          omega

/-- The number a present slot packs to. -/
theorem packField_toNat {f : FieldSlot} (h : f.inRange) : (packField (some f)).toNat =
    1 + 2 * f.role.code + 16 * f.word + 256 * f.start + 65536 * f.width + 16777216 * f.encoding.code := by
  obtain ⟨hword, hstart, -, hwidth⟩ := h
  have hrole := f.role.code_le
  have henc := f.encoding.code_le
  rw [packField, BitVec.toNat_ofNat, Nat.mod_eq_of_lt (by omega)]

/-- Every field slot in range is read back from its word. -/
theorem unpackField_packField {slot : Option FieldSlot} (h : ∀ f, slot = some f → f.inRange) :
    unpackField (packField slot) = some slot := by
  cases slot with
  | none => rfl
  | some f =>
    have hf := h f rfl
    have hnat := packField_toNat hf
    obtain ⟨hword, hstart, hwidth1, hwidth⟩ := hf
    have hrole := f.role.code_le
    have henc := f.encoding.code_le
    rw [unpackField_eq_some_some_iff]
    refine ⟨?_, ?_, ?_, ?_, ?_, ?_, ?_, ?_, ?_⟩
    · simp only [fieldZeros, getLsbD_eq_false_iff, hnat, List.forall_mem_cons]
      refine ⟨?_, ?_, ?_, ?_, ?_, ?_, ?_, ?_, ?_, ?_, ?_, ?_, ?_, by simp⟩ <;> omega
    · rw [getLsbD_eq_decide, hnat, decide_eq_true_eq]; omega
    · rw [hnat, ← f.role.ofCode_code]; congr 1; omega
    · rw [hnat, ← f.encoding.ofCode_code]; congr 1; omega
    all_goals rw [hnat]; omega

/-- A present slot reads back as the word that set it. -/
theorem packField_of_unpackField {v : Word} {slot : Option FieldSlot} (h : unpackField v = some slot)
    (hp : v.getLsbD 0 = true) : packField slot = v := by
  cases slot with
  | none =>
    exact absurd (hp.symm.trans ((unpackField_eq_some_none_iff v).1 h).2) (by decide)
  | some f =>
    obtain ⟨hzeros, -, hrole, henc, -, -, hword, hstart, hwidth⟩ := (unpackField_eq_some_some_iff v f).1 h
    have hv := v.isLt
    rw [getLsbD_eq_decide, decide_eq_true_eq] at hp
    simp only [fieldZeros, getLsbD_eq_false_iff, List.forall_mem_cons] at hzeros
    obtain ⟨h6, h7, h13, h14, h15, h22, h23, h26, h27, h28, h29, h30, h31, -⟩ := hzeros
    rw [packField, Role.code_of_ofCode hrole, Encoding.code_of_ofCode henc, hword, hstart, hwidth]
    apply BitVec.eq_of_toNat_eq
    rw [BitVec.toNat_ofNat]
    omega

/-- Settles O13: the schedule and the field slot, each by the bits of its word. -/
theorem packedFormsRoundTrip : Obligations.PackedFormsRoundTrip := by
  unfold Obligations.PackedFormsRoundTrip
  refine ⟨fun sch => unpackSchedule_packSchedule, fun slot => unpackField_packField, fun v sch h => ?steps,
    fun v f h => ?parts, fun v => ?schedule, fun v => ⟨unpackField_eq_none_iff v, unpackField_eq_some_none_iff v⟩⟩
  case steps =>
    rw [unpackSchedule_eq] at h
    split at h
    case isFalse => exact absurd h (by simp)
    case isTrue =>
      obtain rfl := Option.some.inj h
      refine ⟨rfl, fun k hk => ?_⟩
      rw [scheduleSteps_get, if_pos hk]
      constructor
      · exact toNat_extractLsb' v _ _
      · by_cases hbit : v.getLsbD (6 * k.val + 4) = true <;> simp [stepOf, hbit]
  case parts =>
    obtain ⟨-, -, hrole, henc, -, -, hword, hstart, hwidth⟩ := (unpackField_eq_some_some_iff v f).1 h
    exact ⟨Role.code_of_ofCode hrole, hword, hstart, hwidth, Encoding.code_of_ofCode henc⟩
  case schedule =>
    rw [unpackSchedule_eq]
    split
    · next h => simpa using h
    · next h => simpa using h

end Sys2Proof.Machine
end

section
/-! PROOFS. The items (9.2, 10.4): what a SET of an item writes, what it reads back, and the SET_ITEM of each owner. -/

namespace Sys2Proof.Machine

/-! ## What a SET of a channel item writes (R1, R176) -/

/-- Channel item n set to v gives the configuration: the item's range, and the one field it writes. -/
inductive ChanConfig.Sets (cfg : ChanConfig) (v : Word) : Nat → ChanConfig → Prop
  | intakeBase (h : v.toNat % 16 = 0) : Sets cfg v 0 { cfg with intakeBase := v }
  | outputBase (h : v.toNat % 32 = 0) : Sets cfg v 1 { cfg with outputBase := v }
  | outputDepth (h : v.toNat = 1 ∨ v.toNat = 2 ∨ v.toNat = 4 ∨ v.toNat = 8 ∨ v.toNat = 16) :
      Sets cfg v 2 { cfg with outputDepth := v.toNat }
  | owner (h : v.toNat < 16) : Sets cfg v 3 { cfg with owner := some (v.setWidth 4) }
  | anyOwner (h : v = 16) : Sets cfg v 3 { cfg with owner := none }
  | absorbed (h : v = 0) : Sets cfg v 4 { cfg with passraw := false }
  | passed (h : v = 1) : Sets cfg v 4 { cfg with passraw := true }
  | schedule (sch : Schedule) (h : unpackSchedule v = some sch) : Sets cfg v 5 { cfg with schedule := sch }
  | off (h : v = 0) : Sets cfg v 6 { cfg with filterMode := .off }
  | rate (h : v = 1) : Sets cfg v 6 { cfg with filterMode := .rate }
  | curve (h : v = 2) : Sets cfg v 6 { cfg with filterMode := .curve }
  | limit (h : 1 ≤ v.toNat ∧ v.toNat ≤ 16777215) : Sets cfg v 7 { cfg with limit := v.toNat }
  | persist (h : 1 ≤ v.toNat ∧ v.toNat ≤ 15) : Sets cfg v 8 { cfg with persist := v.toNat }
  | project (h : v = 0) : Sets cfg v 9 { cfg with synthPolicy := .project }
  | hold (h : v = 1) : Sets cfg v 9 { cfg with synthPolicy := .hold }
  | nominal (h : 16 ≤ v.toNat ∧ v.toNat ≤ 16777215) : Sets cfg v 10 { cfg with nominal := v.toNat }
  | avgDepth (h : v.toNat = 1 ∨ v.toNat = 2 ∨ v.toNat = 4 ∨ v.toNat = 8) : Sets cfg v 11 { cfg with avgDepth := v.toNat }
  | deadlineK (h : 17 ≤ v.toNat ∧ v.toNat ≤ 64) : Sets cfg v 12 { cfg with deadlineK := v.toNat }
  | guardG (h : v.toNat ≤ 15) : Sets cfg v 13 { cfg with guardG := v.toNat }
  | missLimit (h : 1 ≤ v.toNat ∧ v.toNat ≤ 15) : Sets cfg v 14 { cfg with missLimit := v.toNat }

theorem ChanConfig.sets_of_setItem {cfg cfg' : ChanConfig} {n : Nat} {v : Word} (h : cfg.setItem n v = some cfg') :
    cfg.Sets v n cfg' := by
  unfold ChanConfig.setItem at h
  dsimp only at h
  split at h
  case h_16 => exact absurd h (by simp)
  case h_6 =>
    obtain ⟨sch, hsch, rfl⟩ := Option.map_eq_some_iff.1 h
    exact .schedule sch hsch
  case h_4 =>
    split at h
    · next hv => obtain rfl := Option.some.inj h; exact .owner hv
    · split at h
      · next hv => obtain rfl := Option.some.inj h; exact .anyOwner (BitVec.eq_of_toNat_eq hv)
      · exact absurd h (by simp)
  case h_5 =>
    split at h
    · next hv => obtain rfl := Option.some.inj h; exact .absorbed (BitVec.eq_of_toNat_eq hv)
    · split at h
      · next hv => obtain rfl := Option.some.inj h; exact .passed (BitVec.eq_of_toNat_eq hv)
      · exact absurd h (by simp)
  case h_7 =>
    split at h
    · next hv => obtain rfl := Option.some.inj h; exact .off (BitVec.eq_of_toNat_eq hv)
    · split at h
      · next hv => obtain rfl := Option.some.inj h; exact .rate (BitVec.eq_of_toNat_eq hv)
      · split at h
        · next hv => obtain rfl := Option.some.inj h; exact .curve (BitVec.eq_of_toNat_eq hv)
        · exact absurd h (by simp)
  case h_10 =>
    split at h
    · next hv => obtain rfl := Option.some.inj h; exact .project (BitVec.eq_of_toNat_eq hv)
    · split at h
      · next hv => obtain rfl := Option.some.inj h; exact .hold (BitVec.eq_of_toNat_eq hv)
      · exact absurd h (by simp)
  all_goals
    obtain ⟨hv, hcfg⟩ := Option.ite_none_right_eq_some.1 h
    obtain rfl := Option.some.inj hcfg
    constructor
    exact hv

/-- An accepted value reads back as it was written; a SCHEDULE drops the steps at or above its length (R177). -/
theorem ChanConfig.Sets.getItem {cfg cfg' : ChanConfig} {n : Nat} {v : Word} (h : cfg.Sets v n cfg') (hn : n ≠ 5) :
    cfg'.getItem n = some v := by
  cases h
  case schedule => exact absurd rfl hn
  case owner h =>
    refine congrArg some (BitVec.eq_of_toNat_eq ?_)
    simp
    omega
  case anyOwner h | absorbed h | passed h | off h | rate h | curve h | project h | hold h => subst h; rfl
  case intakeBase | outputBase => rfl
  all_goals simp [ChanConfig.getItem]

/-- The other items stay. -/
theorem ChanConfig.Sets.getItem_of_ne {cfg cfg' : ChanConfig} {n m : Nat} {v : Word} (h : cfg.Sets v n cfg')
    (hm : m ≠ n) : cfg'.getItem m = cfg.getItem m := by
  unfold ChanConfig.getItem
  cases h <;> split <;> simp_all only [ne_eq, not_true_eq_false]

/-- A configuration in range stays in range. -/
theorem ChanConfig.Sets.inRange {cfg cfg' : ChanConfig} {n : Nat} {v : Word} (h : cfg.Sets v n cfg') (hr : cfg.inRange) :
    cfg'.inRange := by
  obtain ⟨h0, h1, h2, h3, h4, h5, h6, h7, h8, h9, h10, h11, h12, h13, h14, h15, h16, h17⟩ := hr
  cases h
  case schedule sch h =>
    rw [unpackSchedule_eq] at h
    obtain ⟨⟨-, hlen1, hlen4⟩, hsch⟩ := Option.ite_none_right_eq_some.1 h
    obtain rfl := Option.some.inj hsch
    refine ⟨h0, h1, h2, hlen1, hlen4, fun k hk => ?_, h6, h7, h8, h9, h10, h11, h12, h13, h14, h15, h16, h17⟩
    rw [scheduleSteps_get, if_neg (Nat.not_lt.2 hk)]
  all_goals simp_all [ChanConfig.inRange]

/-- A value read back is accepted and changes nothing (R176). -/
theorem ChanConfig.setItem_of_getItem {cfg : ChanConfig} {n : Nat} {v : Word} (hr : cfg.inRange)
    (h : cfg.getItem n = some v) : cfg.setItem n v = some cfg := by
  obtain ⟨h0, h1, h2, h3, h4, h5, h6, h7, h8, h9, h10, h11, h12, h13, h14, h15, h16, h17⟩ := hr
  simp only [List.mem_cons, List.not_mem_nil, or_false] at h2 h12
  have hsmall {x : Nat} (hx : x ≤ 16777215) : (BitVec.ofNat 32 x).toNat = x := by
    rw [BitVec.toNat_ofNat, Nat.mod_eq_of_lt (by omega)]
  match n with
  | 0 =>
    obtain rfl := Option.some.inj h
    exact if_pos h0
  | 1 =>
    obtain rfl := Option.some.inj h
    exact if_pos h1
  | 2 =>
    obtain rfl := Option.some.inj h
    simp only [ChanConfig.setItem, hsmall (x := cfg.outputDepth) (by omega), h2, if_true]
  | 3 =>
    obtain rfl := Option.some.inj h
    cases ho : cfg.owner with
    | none => simp [ChanConfig.setItem, ← ho]
    | some i =>
      have hi := i.isLt
      have hnat : (BitVec.setWidth 32 i).toNat = i.toNat := by simp; omega
      simp only [ChanConfig.setItem, hnat, hi, if_true]
      simp [← ho]
  | 4 =>
    obtain rfl := Option.some.inj h
    cases hp : cfg.passraw <;> simp [ChanConfig.setItem] <;> rw [← hp]
  | 5 =>
    obtain rfl := Option.some.inj h
    simp only [ChanConfig.setItem, unpackSchedule_packSchedule h3 h4 h5, Option.map_some]
  | 6 =>
    obtain rfl := Option.some.inj h
    cases hm : cfg.filterMode <;> simp [ChanConfig.setItem, FilterMode.code, ← hm]
  | 7 =>
    obtain rfl := Option.some.inj h
    simp only [ChanConfig.setItem, hsmall h7, h6, h7, and_self, if_true]
  | 8 =>
    obtain rfl := Option.some.inj h
    simp only [ChanConfig.setItem, hsmall (x := cfg.persist) (by omega), h8, h9, and_self, if_true]
  | 9 =>
    obtain rfl := Option.some.inj h
    cases hs : cfg.synthPolicy <;> simp [ChanConfig.setItem, SynthPolicy.code, ← hs]
  | 10 =>
    obtain rfl := Option.some.inj h
    simp only [ChanConfig.setItem, hsmall h11, h10, h11, and_self, if_true]
  | 11 =>
    obtain rfl := Option.some.inj h
    simp only [ChanConfig.setItem, hsmall (x := cfg.avgDepth) (by omega), h12, if_true]
  | 12 =>
    obtain rfl := Option.some.inj h
    simp only [ChanConfig.setItem, hsmall (x := cfg.deadlineK) (by omega), h13, h14, and_self, if_true]
  | 13 =>
    obtain rfl := Option.some.inj h
    simp only [ChanConfig.setItem, hsmall (x := cfg.guardG) (by omega), h15, if_true]
  | 14 =>
    obtain rfl := Option.some.inj h
    simp only [ChanConfig.setItem, hsmall (x := cfg.missLimit) (by omega), h16, h17, and_self, if_true]
  | n + 15 => exact absurd h (by simp [ChanConfig.getItem])

/-! ## What a SET of a descriptor item writes (R22, R24) -/

/-- Descriptor item n set to v gives the descriptor: the item's range, and the one field it writes. -/
inductive Descriptor.Sets (d : Descriptor) (v : Word) : Nat → Descriptor → Prop
  | frameWords (h : 1 ≤ v.toNat ∧ v.toNat ≤ 4) : Sets d v 0 { d with frameWords := v.toNat }
  | tagExpect (h : v.toNat ≤ 255) : Sets d v 1 { d with tagExpect := v.setWidth 8 }
  | faultMask : Sets d v 2 { d with faultMask := v }
  | field (k : Fin 4) (f : Option FieldSlot) (h : unpackField v = some f) :
      Sets d v (3 + k.val) { d with fields := d.fields.set k f }

theorem Descriptor.sets_of_setItem {d d' : Descriptor} {n : Nat} {v : Word} (h : d.setItem n v = some d') :
    d.Sets v n d' := by
  unfold Descriptor.setItem at h
  split at h
  case h_1 =>
    obtain ⟨hv, hd⟩ := Option.ite_none_right_eq_some.1 h
    obtain rfl := Option.some.inj hd
    exact .frameWords hv
  case h_2 =>
    obtain ⟨hv, hd⟩ := Option.ite_none_right_eq_some.1 h
    obtain rfl := Option.some.inj hd
    exact .tagExpect hv
  case h_3 =>
    obtain rfl := Option.some.inj h
    exact .faultMask
  case h_4 => obtain ⟨f, hf, rfl⟩ := Option.map_eq_some_iff.1 h; exact .field 0 f hf
  case h_5 => obtain ⟨f, hf, rfl⟩ := Option.map_eq_some_iff.1 h; exact .field 1 f hf
  case h_6 => obtain ⟨f, hf, rfl⟩ := Option.map_eq_some_iff.1 h; exact .field 2 f hf
  case h_7 => obtain ⟨f, hf, rfl⟩ := Option.map_eq_some_iff.1 h; exact .field 3 f hf
  case h_8 => exact absurd h (by simp)

/-- The four field slots as items (R176). -/
theorem Descriptor.getItem_field (d : Descriptor) (k : Fin 4) : d.getItem (3 + k.val) = some (packField d.fields[k]) := by
  match k with
  | 0 | 1 | 2 | 3 => rfl

/-- An accepted value reads back as it was written, but for a slot made absent (R177). -/
theorem Descriptor.Sets.getItem {d d' : Descriptor} {n : Nat} {v : Word} (h : d.Sets v n d')
    (hv : n < 3 ∨ v.getLsbD 0 = true) : d'.getItem n = some v := by
  cases h
  case frameWords => simp [Descriptor.getItem]
  case tagExpect h =>
    refine congrArg some (BitVec.eq_of_toNat_eq ?_)
    simp
    omega
  case faultMask => rfl
  case field k f h =>
    rw [Descriptor.getItem_field]
    simpa using packField_of_unpackField h (hv.resolve_left (by omega))

/-- The other items stay. -/
theorem Descriptor.Sets.getItem_of_ne {d d' : Descriptor} {n m : Nat} {v : Word} (h : d.Sets v n d') (hm : m ≠ n) :
    d'.getItem m = d.getItem m := by
  cases h
  case field k f h =>
    by_cases hfield : 3 ≤ m ∧ m < 7
    · obtain ⟨j, rfl⟩ : ∃ j : Fin 4, m = 3 + j.val := ⟨⟨m - 3, by omega⟩, by simp; omega⟩
      have hj : k.val ≠ j.val := fun e => hm (by rw [e])
      rw [Descriptor.getItem_field, Descriptor.getItem_field]
      simp [hj]
    · match m with
      | 0 | 1 | 2 => rfl
      | 3 | 4 | 5 | 6 => exact absurd ⟨by omega, by omega⟩ hfield
      | m + 7 => rfl
  all_goals
    unfold Descriptor.getItem
    split <;> simp_all only [ne_eq, not_true_eq_false]

/-- A descriptor in range stays in range. -/
theorem Descriptor.Sets.inRange {d d' : Descriptor} {n : Nat} {v : Word} (h : d.Sets v n d') (hr : d.inRange) :
    d'.inRange := by
  obtain ⟨h1, h4, hfields⟩ := hr
  cases h
  case frameWords h => exact ⟨h.1, h.2, hfields⟩
  case tagExpect => exact ⟨h1, h4, hfields⟩
  case faultMask => exact ⟨h1, h4, hfields⟩
  case field k slot h =>
    refine ⟨h1, h4, fun j f hj => ?_⟩
    by_cases hk : k = j
    · subst hk
      obtain rfl : slot = some f := by simpa using hj
      obtain ⟨-, -, -, -, hw1, hw32, hword, hstart, hwidth⟩ := (unpackField_eq_some_some_iff v f).1 h
      exact ⟨by omega, by omega, by omega, by omega⟩
    · have hval : k.val ≠ j.val := fun e => hk (Fin.ext e)
      exact hfields j f (by simpa [hval] using hj)

/-- A value read back is accepted and changes nothing (R176). -/
theorem Descriptor.setItem_of_getItem {d : Descriptor} {n : Nat} {v : Word} (hr : d.inRange) (h : d.getItem n = some v) :
    d.setItem n v = some d := by
  obtain ⟨h1, h4, hfields⟩ := hr
  have hslot (k : Fin 4) : unpackField (packField d.fields[k]) = some d.fields[k] := unpackField_packField (hfields k)
  match n with
  | 0 =>
    obtain rfl := Option.some.inj h
    have hnat : (BitVec.ofNat 32 d.frameWords).toNat = d.frameWords := by simp; omega
    simp only [Descriptor.setItem, hnat, h1, h4, and_self, if_true]
  | 1 =>
    obtain rfl := Option.some.inj h
    have hd := d.tagExpect.isLt
    have hnat : (d.tagExpect.setWidth 32).toNat ≤ 255 := by simp; omega
    simp only [Descriptor.setItem, hnat, if_true]
    simp
  | 2 =>
    obtain rfl := Option.some.inj h
    rfl
  | 3 =>
    obtain rfl := Option.some.inj h
    have := hslot 0
    simp_all [Descriptor.setItem]
  | 4 =>
    obtain rfl := Option.some.inj h
    have := hslot 1
    simp_all [Descriptor.setItem]
  | 5 =>
    obtain rfl := Option.some.inj h
    have := hslot 2
    simp_all [Descriptor.setItem]
  | 6 =>
    obtain rfl := Option.some.inj h
    have := hslot 3
    simp_all [Descriptor.setItem]
  | n + 7 => exact absurd h (by simp [Descriptor.getItem])

/-! ## The locks (R2, R24, R65) -/

/-- The schedule names a descriptor: an active step is for it. -/
theorem Schedule.names_iff (sch : Schedule) (d : DescId) :
    sch.names d = true ↔ ∃ k : Fin 4, k.val < sch.len ∧ (sch.steps[k]).desc = d := by
  simp [Schedule.names, Schedule.active]

theorem State.descLocked_iff (s : State) (d : DescId) : s.descLocked d = true ↔
    ∃ c, (s.chan c).rt.state ≠ .disabled ∧ ∃ k : Fin 4, k.val < (s.chan c).cfg.schedule.len
      ∧ ((s.chan c).cfg.schedule.steps[k]).desc = d := by
  simp [State.descLocked, Schedule.names_iff]

theorem State.allDisabled_iff (s : State) : s.allDisabled = true ↔ ∀ c, (s.chan c).rt.state = .disabled := by
  simp [State.allDisabled]

end Sys2Proof.Machine
end

section
/-! PROOFS. The SET_ITEM of each owner (R2, R24, R65, R126, R131, R143), and reading back (R176). -/

namespace Sys2Proof.Machine

/-! ## Channel and descriptor items -/

theorem ruleChannelSelector_ofNat (c : ChanId) {item : Byte} (h : item.toNat < 15) (v : Word) (s : State) :
    ruleChannelSelector (BitVec.ofNat 8 c.val) item v s = ruleSetChannel c item.toNat v s := by
  simp only [ruleChannelSelector, channelOf_ofNat, h, if_true]

theorem ruleSetChannel_locked {s : State} {c : ChanId} (h : (s.chan c).rt.state ≠ .disabled) (n : Nat) (v : Word) :
    ruleSetChannel c n v s = ⟨s, .locked, []⟩ := if_pos h

theorem ruleSetChannel_outOfRange {s : State} {c : ChanId} {n : Nat} {v : Word} (h : (s.chan c).rt.state = .disabled)
    (hset : (s.chan c).cfg.setItem n v = none) : ruleSetChannel c n v s = ⟨s, .badArgument, []⟩ := by
  simp only [ruleSetChannel, h, hset, ne_eq, not_true_eq_false, if_false]

theorem ruleSetChannel_accepted {s : State} {c : ChanId} {n : Nat} {v : Word} {cfg : ChanConfig}
    (h : (s.chan c).rt.state = .disabled) (hset : (s.chan c).cfg.setItem n v = some cfg) :
    ruleSetChannel c n v s = ⟨s.setChan c { s.chan c with cfg := cfg }, .ok, []⟩ := by
  simp only [ruleSetChannel, h, hset, ne_eq, not_true_eq_false, if_false]

theorem ruleDescriptorSelector_ofNat (d : DescId) {item : Byte} (h : item.toNat < 7) (v : Word) (s : State) :
    ruleDescriptorSelector (BitVec.ofNat 8 d.val) item v s = ruleSetDescriptor d item.toNat v s := by
  have hd : (BitVec.ofNat 8 d.val).toNat = d.val := by simp; omega
  simp only [ruleDescriptorSelector, hd, d.isLt, h, dif_pos, if_true]

theorem ruleSetDescriptor_locked {s : State} {d : DescId} (h : s.descLocked d = true) (n : Nat) (v : Word) :
    ruleSetDescriptor d n v s = ⟨s, .locked, []⟩ := if_pos h

theorem ruleSetDescriptor_outOfRange {s : State} {d : DescId} {n : Nat} {v : Word} (h : s.descLocked d = false)
    (hset : (s.descs[d]).setItem n v = none) : ruleSetDescriptor d n v s = ⟨s, .badArgument, []⟩ := by
  simp only [ruleSetDescriptor, h, hset, Bool.false_eq_true, if_false]

theorem ruleSetDescriptor_accepted {s : State} {d : DescId} {n : Nat} {v : Word} {x : Descriptor}
    (h : s.descLocked d = false) (hset : (s.descs[d]).setItem n v = some x) :
    ruleSetDescriptor d n v s = ⟨{ s with descs := s.descs.set d x }, .ok, []⟩ := by
  simp only [ruleSetDescriptor, h, hset, Bool.false_eq_true, if_false]

/-- Settles O10: the lock, then the range, then the one item written. -/
theorem ownedItemsLockThenRange : Obligations.OwnedItemsLockThenRange := by
  unfold Obligations.OwnedItemsLockThenRange
  constructor
  · intro c item v s hr hitem hlast
    have hexec {t : State} {st : Status} (h : ruleSetChannel c item.toNat v s = ⟨t, st, []⟩) :
        exec (.setChannelItem (BitVec.ofNat 8 c.val) item v) s = .next (t.answer .setItem st []) :=
      exec_eq_answer rfl (State.row_taken _ hlast hr) ((ruleChannelSelector_ofNat c hitem v s).trans h)
    exact ⟨fun h => hexec (ruleSetChannel_locked h _ _), fun h hset => hexec (ruleSetChannel_outOfRange h hset),
      fun cfg h hset => ⟨hexec (ruleSetChannel_accepted h hset),
        fun m hm => (ChanConfig.sets_of_setItem hset).getItem_of_ne hm⟩⟩
  · intro d item v s hr hitem hlast
    have hexec {t : State} {st : Status} (h : ruleSetDescriptor d item.toNat v s = ⟨t, st, []⟩) :
        exec (.setDescriptorItem (BitVec.ofNat 8 d.val) item v) s = .next (t.answer .setItem st []) :=
      exec_eq_answer rfl (State.row_taken _ hlast hr) ((ruleDescriptorSelector_ofNat d hitem v s).trans h)
    refine ⟨fun h => hexec (ruleSetDescriptor_locked ((s.descLocked_iff d).2 h) _ _), fun h => ?_⟩
    have hunlocked : s.descLocked d = false := by
      rw [← Bool.not_eq_true, s.descLocked_iff]
      rintro ⟨c, hc, k, hk, hd⟩
      exact h c hc k hk hd
    exact ⟨fun hset => hexec (ruleSetDescriptor_outOfRange hunlocked hset),
      fun x hset => ⟨hexec (ruleSetDescriptor_accepted hunlocked hset),
        fun m hm => (Descriptor.sets_of_setItem hset).getItem_of_ne hm⟩⟩

/-! ## Global items -/

/-- The accepted values of RESP_LIMIT are the powers of two from 2^10 to 2^20 (R131). -/
theorem mem_respLimits_iff (n : Nat) : n ∈ respLimits ↔ ∃ k, 10 ≤ k ∧ k ≤ 20 ∧ n = 2 ^ k := by
  have hpowers : respLimits = (List.range 11).map fun k => 2 ^ (10 + k) := by decide
  rw [hpowers, List.mem_map]
  constructor
  · rintro ⟨k, hk, rfl⟩
    exact ⟨10 + k, by omega, by simp at hk; omega, rfl⟩
  · rintro ⟨k, h10, h20, rfl⟩
    exact ⟨k - 10, by simp; omega, by rw [Nat.add_sub_cancel' h10]⟩

/-- A rule whose row has been reached, the part not RESETTING, decides the answer of a SET_ITEM. -/
theorem exec_setItem_eq {i : Instr} {s t : State} {args : List Byte} {rule : State → Answer} {st : Status}
    (hrow : exec i s = .next (s.row .setItem args rule)) (hr : s.resetting = false)
    (hlast : s.atLastByte .setItem args = true) (hrule : rule s = ⟨t, st, []⟩) :
    exec i s = .next (t.answer .setItem st []) :=
  exec_eq_answer hrow (State.row_taken rule hlast hr) hrule

/-- Settles O11: each global item by its lock and its range. -/
theorem globalItemsSet : Obligations.GlobalItemsSet := by
  unfold Obligations.GlobalItemsSet
  intro v s hr
  refine ⟨fun hlast => ⟨fun ⟨c, hc⟩ => ?locked, fun h => ?tickDiv⟩, fun hlast => ⟨fun hv => ?initRefused, fun hv => ?init⟩,
    fun hlast => ⟨fun k h10 h20 hv => ?limit, fun hv => ?limitRefused⟩, fun hlast => ⟨fun hv => ?mask, fun hv => ?maskRefused⟩⟩
  case locked =>
    have hlock : s.allDisabled = false := by
      rw [← Bool.not_eq_true, s.allDisabled_iff]
      exact fun h => hc (h c)
    exact exec_setItem_eq rfl hr hlast (if_pos hlock)
  case tickDiv =>
    have hfree : ¬ s.allDisabled = false := by rw [Bool.not_eq_false, s.allDisabled_iff]; exact h
    refine ⟨fun hv => ?_, fun hv => ?_⟩
    · exact exec_setItem_eq rfl hr hlast ((if_neg hfree).trans (if_neg (Nat.not_le.2 hv)))
    · exact exec_setItem_eq rfl hr hlast ((if_neg hfree).trans (if_pos hv))
  case initRefused => exact exec_setItem_eq rfl hr hlast (if_neg (Nat.not_le.2 hv))
  case init => exact exec_setItem_eq rfl hr hlast (if_pos hv)
  case limit => exact exec_setItem_eq rfl hr hlast (if_pos ((mem_respLimits_iff _).2 ⟨k, h10, h20, hv⟩))
  case limitRefused =>
    refine exec_setItem_eq rfl hr hlast (if_neg fun hmem => ?_)
    obtain ⟨k, h10, h20, hk⟩ := (mem_respLimits_iff _).1 hmem
    exact hv k h10 h20 hk
  case mask => exact exec_setItem_eq rfl hr hlast (if_pos hv)
  case maskRefused => exact exec_setItem_eq rfl hr hlast (if_neg (Nat.not_lt.2 hv))

/-! ## Reading back -/

/-- What a SET_ITEM of a global item that is accepted writes: the item's range and the one field. -/
inductive SetsGlobal (s : State) (v : Word) : Nat → State → Prop
  | tickDiv (h : v.toNat ≤ 7) : SetsGlobal s v 0 { s with tickDiv := v.setWidth 3 }
  | partInitiator (h : v.toNat ≤ 15) : SetsGlobal s v 1 { s with partInitiator := v.setWidth 4 }
  | respLimit (h : v.toNat ∈ respLimits) : SetsGlobal s v 2 { s with respLimit := v.toNat }
  | eventMask (h : v.toNat < 32768) : SetsGlobal s v 3 { s with eventMask := v.setWidth 15 }

theorem ruleSetItem_global (item : Byte) (v : Word) (s : State) : ruleSetItem 0 0 item v s =
    match item.toNat with
    | 0 => ruleSetTickDiv v s
    | 1 => ruleSetPartInitiator v s
    | 2 => ruleSetRespLimit v s
    | 3 => ruleSetEventMask v s
    | _ => ⟨s, .badArgument, []⟩ := rfl

theorem ruleSetTickDiv_spec (v : Word) (s : State) :
    (ruleSetTickDiv v s).state = s ∧ (ruleSetTickDiv v s).status ≠ .ok
      ∨ SetsGlobal s v 0 (ruleSetTickDiv v s).state := by
  unfold ruleSetTickDiv
  split
  · exact .inl ⟨rfl, by simp⟩
  · split
    · next h => exact .inr (.tickDiv h)
    · exact .inl ⟨rfl, by simp⟩

theorem ruleSetPartInitiator_spec (v : Word) (s : State) :
    (ruleSetPartInitiator v s).state = s ∧ (ruleSetPartInitiator v s).status ≠ .ok
      ∨ SetsGlobal s v 1 (ruleSetPartInitiator v s).state := by
  unfold ruleSetPartInitiator
  split
  · next h => exact .inr (.partInitiator h)
  · exact .inl ⟨rfl, by simp⟩

theorem ruleSetRespLimit_spec (v : Word) (s : State) :
    (ruleSetRespLimit v s).state = s ∧ (ruleSetRespLimit v s).status ≠ .ok
      ∨ SetsGlobal s v 2 (ruleSetRespLimit v s).state := by
  unfold ruleSetRespLimit
  split
  · next h => exact .inr (.respLimit h)
  · exact .inl ⟨rfl, by simp⟩

theorem ruleSetEventMask_spec (v : Word) (s : State) :
    (ruleSetEventMask v s).state = s ∧ (ruleSetEventMask v s).status ≠ .ok
      ∨ SetsGlobal s v 3 (ruleSetEventMask v s).state := by
  unfold ruleSetEventMask
  split
  · next h => exact .inr (.eventMask h)
  · exact .inl ⟨rfl, by simp⟩

/-- A global item accepted is the item of its number. -/
theorem setsGlobal_of_ok {item : Byte} {v : Word} {s : State} (h : (ruleSetItem 0 0 item v s).status = .ok) :
    SetsGlobal s v item.toNat (ruleSetItem 0 0 item v s).state := by
  rw [ruleSetItem_global] at h ⊢
  split at h
  · next hi => rw [hi]; exact (ruleSetTickDiv_spec v s).resolve_left fun hn => hn.2 h
  · next hi => rw [hi]; exact (ruleSetPartInitiator_spec v s).resolve_left fun hn => hn.2 h
  · next hi => rw [hi]; exact (ruleSetRespLimit_spec v s).resolve_left fun hn => hn.2 h
  · next hi => rw [hi]; exact (ruleSetEventMask_spec v s).resolve_left fun hn => hn.2 h
  · exact absurd h (by simp)

/-- An accepted global item reads back as it was written. -/
theorem SetsGlobal.getGlobal {s t : State} {v : Word} {n : Nat} (h : SetsGlobal s v n t) : t.getGlobal n = some v := by
  cases h
  case respLimit => simp [State.getGlobal]
  all_goals
    refine congrArg some (BitVec.eq_of_toNat_eq ?_)
    simp
    omega

/-- The other global items stay. -/
theorem SetsGlobal.getGlobal_of_ne {s t : State} {v : Word} {n m : Nat} (h : SetsGlobal s v n t) (hm : m ≠ n) :
    t.getGlobal m = s.getGlobal m := by
  unfold State.getGlobal
  cases h <;> split <;> simp_all only [ne_eq, not_true_eq_false]

/-- A global item read back and written again is accepted and changes nothing, TICK_DIV while every channel is DISABLED. -/
theorem ruleSetItem_of_getGlobal {s : State} {item : Byte} {v : Word} (hitem : item.toNat ≤ 3)
    (hlimit : s.respLimit ∈ respLimits) (hread : s.getGlobal item.toNat = some v)
    (hlock : item.toNat = 0 → s.allDisabled = true) : ruleSetItem 0 0 item v s = ⟨s, .ok, []⟩ := by
  rw [ruleSetItem_global]
  generalize item.toNat = n at *
  match n with
  | 0 =>
    obtain rfl := Option.some.inj hread
    have hv : (s.tickDiv.setWidth 32).toNat ≤ 7 := by have := s.tickDiv.isLt; simp; omega
    have hfree : ¬ s.allDisabled = false := by simp [hlock rfl]
    rw [ruleSetTickDiv, if_neg hfree, if_pos hv]
    simp
  | 1 =>
    obtain rfl := Option.some.inj hread
    have hv : (s.partInitiator.setWidth 32).toNat ≤ 15 := by have := s.partInitiator.isLt; simp; omega
    rw [ruleSetPartInitiator, if_pos hv]
    simp
  | 2 =>
    obtain rfl := Option.some.inj hread
    have hv : (BitVec.ofNat 32 s.respLimit).toNat = s.respLimit := by
      simp [respLimits] at hlimit
      simp
      omega
    simp only [ruleSetRespLimit, hv, hlimit, if_true]
  | 3 =>
    obtain rfl := Option.some.inj hread
    have hv : (s.eventMask.setWidth 32).toNat < 32768 := by have := s.eventMask.isLt; simp; omega
    rw [ruleSetEventMask, if_pos hv]
    simp
  | n + 4 => omega

/-- The channel items in their order (R176). -/
theorem ChanConfig.items_eq (cfg : ChanConfig) : (List.range 15).map cfg.getItem = [some cfg.intakeBase,
    some cfg.outputBase, some (BitVec.ofNat 32 cfg.outputDepth),
    some (match cfg.owner with | none => 16 | some i => i.setWidth 32),
    some (if cfg.passraw then 1 else 0), some (packSchedule cfg.schedule),
    some (match cfg.filterMode with | .off => 0 | .rate => 1 | .curve => 2), some (BitVec.ofNat 32 cfg.limit),
    some (BitVec.ofNat 32 cfg.persist), some (match cfg.synthPolicy with | .project => 0 | .hold => 1),
    some (BitVec.ofNat 32 cfg.nominal), some (BitVec.ofNat 32 cfg.avgDepth), some (BitVec.ofNat 32 cfg.deadlineK),
    some (BitVec.ofNat 32 cfg.guardG), some (BitVec.ofNat 32 cfg.missLimit)] := by
  have hmode : BitVec.ofNat 32 cfg.filterMode.code = match cfg.filterMode with | .off => 0 | .rate => 1 | .curve => 2 := by
    cases cfg.filterMode <;> rfl
  have hpolicy : BitVec.ofNat 32 cfg.synthPolicy.code = match cfg.synthPolicy with | .project => 0 | .hold => 1 := by
    cases cfg.synthPolicy <;> rfl
  rw [← hmode, ← hpolicy]
  rfl

/-- Settles O12: in each scope, what a SET writes reads back, and what is read back is in range. -/
theorem readBackValueIsAccepted : Obligations.ReadBackValueIsAccepted := by
  unfold Obligations.ReadBackValueIsAccepted
  refine ⟨ChanConfig.items_eq, fun d => rfl, fun cfg n v => ChanConfig.setItem_of_getItem,
    fun d n v => Descriptor.setItem_of_getItem, fun cfg cfg' n v hn h => (ChanConfig.sets_of_setItem h).getItem hn,
    fun d d' n v hv h => (Descriptor.sets_of_setItem h).getItem hv, fun item v s hitem => ⟨?again, fun hok => ⟨?written, ?others⟩⟩⟩
  case again =>
    rintro ⟨-, -, hlimit⟩ hread hlock
    refine ruleSetItem_of_getGlobal hitem hlimit hread fun h0 => (s.allDisabled_iff).2 (hlock ?_)
    exact BitVec.eq_of_toNat_eq h0
  case written => exact (setsGlobal_of_ok hok).getGlobal
  case others =>
    exact fun m hm => (setsGlobal_of_ok hok).getGlobal_of_ne fun h => hm (BitVec.eq_of_toNat_eq h)

end Sys2Proof.Machine
end

section
/-! PROOFS. Reservations, settlement and drain (05_output_records.md, 1.3): the end of a record half, the move of a released read,
and the words of a record. -/

namespace Sys2Proof.Machine

/-! ## The first of a list that meets a condition -/

theorem findIdx?_of_split {α : Type} {p : α → Bool} {before after' : List α} {a : α} (ha : p a = true)
    (hbefore : ∀ b ∈ before, p b = false) : (before ++ a :: after').findIdx? p = some before.length := by
  rw [List.findIdx?_append, List.findIdx?_eq_none_iff.2 hbefore, List.findIdx?_cons, ha]
  simp

theorem split_of_findIdx? {α : Type} {p : α → Bool} {l : List α} {i : Nat} (h : l.findIdx? p = some i) :
    ∃ before a after', l = before ++ a :: after' ∧ i = before.length ∧ p a = true ∧ ∀ b ∈ before, p b = false := by
  obtain ⟨hi, hp, hbefore⟩ := List.findIdx?_eq_some_iff_getElem.1 h
  refine ⟨l.take i, l[i], l.drop (i + 1), ?_, by simp; omega, hp, fun b hb => ?_⟩
  · rw [List.getElem_cons_drop, List.take_append_drop]
  · obtain ⟨j, hj, rfl⟩ := List.getElem_of_mem hb
    rw [List.getElem_take]
    rw [List.length_take] at hj
    simpa using hbefore j (by omega)

theorem getElem?_length_append {α : Type} (before : List α) (a : α) (after' : List α) :
    (before ++ a :: after')[before.length]? = some a := by simp

theorem eraseIdx_length_append {α : Type} (before : List α) (a : α) (after' : List α) :
    (before ++ a :: after').eraseIdx before.length = before ++ after' := by
  rw [List.eraseIdx_append_of_length_le le_rfl]
  simp

theorem set_length_append {α : Type} (before : List α) (a b : α) (after' : List α) :
    (before ++ a :: after').set before.length b = before ++ b :: after' := by
  simp

/-! ## Reservations (R93, R101) -/

theorem State.endReservation_eq (s : State) (c : ChanId) (slot : Nat) : s.endReservation c slot =
    { s with hold := if s.reserved c slot then s.hold else s.hold.map (HoldEntry.release c slot) } := by
  unfold State.endReservation
  split <;> rfl

/-! ## The drain condition (R16) -/

theorem Entry.holdsDrain_iff (c : ChanId) (x : Entry) : x.holdsDrain c = true ↔
    ∃ t q h, x.tx = some t ∧ t.orphan = false ∧ t.origin = .record c q h := by
  unfold Entry.holdsDrain
  cases x.tx with
  | none => simp
  | some t => cases ho : t.origin <;> simp [ho]

theorem State.drained_iff (s : State) (c : ChanId) : s.drained c = true ↔
    (∀ r ∈ s.records, r.chan ≠ c) ∧ (∀ e, (s.entry e).holdsDrain c = false) ∧ ∀ h ∈ s.hold, h.chan ≠ c := by
  simp [State.drained, and_assoc]

theorem State.drainTest_of_drained {s : State} {c : ChanId} (h : (s.chan c).rt.state = .draining ∧ s.drained c = true) :
    s.drainTest c = (s.setChan c { s.chan c with rt := { (s.chan c).rt with state := .disabled } },
      [⟨.chDrained, some c, 0⟩]) := if_pos h

theorem State.drainTest_of_not_drained {s : State} {c : ChanId}
    (h : ¬ ((s.chan c).rt.state = .draining ∧ s.drained c = true)) : s.drainTest c = (s, []) := if_neg h

/-! ## The end of a half (R97, R98) -/

/-- An outstanding record, the first of its channel and sequence number, whose half ends: the three outcomes. -/
theorem State.endHalf_of_split {s : State} {before after' : List OutRecord} {o : OutRecord}
    (hsplit : s.outstanding = before ++ o :: after') (hfirst : ∀ p ∈ before, ¬ (p.chan = o.chan ∧ p.seq = o.seq))
    (h : RecHalf) (x : HalfOutcome) : s.endHalf o.chan o.seq h x =
      if (o.endHalf h x).settled then
        if (o.endHalf h x).written then
          (State.endReservation { s with outstanding := before ++ after' } o.chan o.slot, [])
        else
          (State.endReservation (State.bumpCtr { s with outstanding := before ++ after' } o.chan Counters.bumpFailed)
            o.chan o.slot, [⟨.recordFailed, some o.chan, (o.endHalf h x).failReason⟩])
      else ({ s with outstanding := before ++ o.endHalf h x :: after' }, []) := by
  have hfind : s.outstanding.findIdx? (OutRecord.isOf o.chan o.seq) = some before.length := by
    rw [hsplit]
    refine findIdx?_of_split (by simp [OutRecord.isOf]) fun p hp => ?_
    have := hfirst p hp
    simp only [OutRecord.isOf, Bool.and_eq_false_iff, beq_eq_false_iff_ne]
    tauto
  have hget : s.outstanding[before.length]? = some o := by rw [hsplit, getElem?_length_append]
  have herase : s.outstanding.eraseIdx before.length = before ++ after' := by rw [hsplit, eraseIdx_length_append]
  have hset (b : OutRecord) : s.outstanding.set before.length b = before ++ b :: after' := by
    rw [hsplit, set_length_append]
  simp only [State.endHalf, hfind, hget, herase, hset]

/-- The end of a half finds no outstanding record, or the first of the channel and sequence number. -/
theorem State.endHalf_cases (s : State) (c : ChanId) (q : Half) (h : RecHalf) (x : HalfOutcome) :
    s.endHalf c q h x = (s, []) ∨ ∃ before o after', s.outstanding = before ++ o :: after' ∧ o.chan = c ∧ o.seq = q
      ∧ ∀ p ∈ before, ¬ (p.chan = o.chan ∧ p.seq = o.seq) := by
  cases hfind : s.outstanding.findIdx? (OutRecord.isOf c q) with
  | none => left; simp only [State.endHalf, hfind]
  | some i =>
    right
    obtain ⟨before, o, after', hsplit, -, ho, hbefore⟩ := split_of_findIdx? hfind
    simp only [OutRecord.isOf, Bool.and_eq_true, beq_iff_eq] at ho
    refine ⟨before, o, after', hsplit, ho.1, ho.2, fun p hp hsame => ?_⟩
    have := hbefore p hp
    simp [OutRecord.isOf, hsame.1, hsame.2, ho.1, ho.2] at this

/-- The outcome of one half as the other stands. -/
theorem OutRecord.endHalf_settled (o : OutRecord) (h : RecHalf) {x : HalfOutcome} (hx : x ≠ .awaiting) :
    (o.endHalf h x).settled = true ↔ (match h with | .first => o.second | .second => o.first) ≠ .awaiting := by
  cases h <;> simp [OutRecord.endHalf, OutRecord.settled, hx]

theorem OutRecord.endHalf_written (o : OutRecord) (h : RecHalf) (x : HalfOutcome) :
    (o.endHalf h x).written = true ↔ (match h with | .first => o.second | .second => o.first) = .ok ∧ x = .ok := by
  cases h <;> simp [OutRecord.endHalf, OutRecord.written, and_comm]

theorem OutRecord.endHalf_failReason (o : OutRecord) (h : RecHalf) (x : HalfOutcome) : (o.endHalf h x).failReason =
    if x = .memoryError ∨ (match h with | .first => o.second | .second => o.first) = .memoryError then 1 else 2 := by
  cases h with
  | first => exact if_congr Iff.rfl rfl rfl
  | second => exact if_congr or_comm rfl rfl

/-- Settles O41: the end of a half by the other half, the drain test after it, and the parts of the drain condition. -/
theorem halfEndsAndSettles : Obligations.HalfEndsAndSettles := by
  unfold Obligations.HalfEndsAndSettles
  refine ⟨fun s before after' o h x hsplit hfirst hx => ?half, fun s c q h x => ?drain, fun s c => ?condition⟩
  case half =>
    intro other noted c still released gone reason
    have hend := State.endHalf_of_split hsplit hfirst h x
    refine ⟨fun ho => ?_, fun ho hok => ?_, fun ho hnot => ?_⟩
    · have hs : ¬ (o.endHalf h x).settled = true := by rw [OutRecord.endHalf_settled o h hx]; exact not_not_intro ho
      have hnoted : noted = o.endHalf h x := by cases h <;> rfl
      rw [hend, if_neg hs, hnoted]
    · have hs : (o.endHalf h x).settled = true := by
        rw [OutRecord.endHalf_settled o h hx]
        exact fun e => absurd (ho.symm.trans e) (by decide)
      have hw : (o.endHalf h x).written = true := (OutRecord.endHalf_written o h x).2 ⟨ho, hok⟩
      rw [hend, if_pos hs, if_pos hw, State.endReservation_eq]
      rfl
    · have hs : (o.endHalf h x).settled = true := (OutRecord.endHalf_settled o h hx).2 ho
      have hw : ¬ (o.endHalf h x).written = true := by rw [OutRecord.endHalf_written]; exact hnot
      rw [hend, if_pos hs, if_neg hw, State.endReservation_eq, OutRecord.endHalf_failReason]
      rfl
  case drain =>
    intro t drains
    refine ⟨fun hd => ?_, fun hd => ?_⟩
    · have htest : t.1.drainTest c = (t.1, []) := State.drainTest_of_not_drained hd
      simp only [State.halfEnded]
      rw [htest]
      exact State.raise_pair_nil _ _
    · have htest := State.drainTest_of_drained hd
      obtain ⟨order, k, hraise, hperm, -⟩ := State.raise_eq (t.1.drainTest c).1 [t.2, (t.1.drainTest c).2]
      refine ⟨order, k, ?_, ?_⟩
      · rw [htest] at hperm
        simpa using hperm
      · refine hraise.trans ?_
        rw [htest]
        rfl
  case condition =>
    rw [s.drained_iff]
    refine and_congr_right fun _ => and_congr_left fun _ => forall_congr' fun e => ?_
    rw [← Bool.not_eq_true, Entry.holdsDrain_iff]
    constructor
    · intro hno t q h ht ho
      by_contra horphan
      exact hno ⟨t, q, h, ht, by simpa using horphan, ho⟩
    · rintro hall ⟨t, q, h, ht, horphan, ho⟩
      rw [hall t q h ht ho] at horphan
      exact absurd horphan (by decide)

/-! ## The move of a released read (R101, R120) -/

/-- The oldest RELEASED read, with room in the Forward Queue, moves; the drain of its channel is tested. -/
theorem exec_releasedReadMove_of_split {s : State} {before after' : List HoldEntry} {h : HoldEntry}
    (hr : s.rstAsserted = false) (hsplit : s.hold = before ++ h :: after') (hh : h.cond = .released)
    (hbefore : ∀ g ∈ before, g.cond = .held) (hroom : s.forward.length < 8) :
    let moved : State := { s with hold := before ++ after', forward := s.forward ++ [h.req] }
    exec .releasedReadMove s = .next ((moved.drainTest h.chan).1.logAll (moved.drainTest h.chan).2) := by
  intro moved
  have hfind : s.hold.findIdx? (fun g => g.cond == .released) = some before.length := by
    rw [hsplit]
    exact findIdx?_of_split (by simp [hh]) fun g hg => by simp [hbefore g hg]
  have hget : s.hold[before.length]? = some h := by rw [hsplit, getElem?_length_append]
  have herase : s.hold.eraseIdx before.length = before ++ after' := by rw [hsplit, eraseIdx_length_append]
  rw [← State.raise_single]
  simp only [exec, execReleasedReadMove, hfind, hget, herase]
  exact congrArg Host.Outcome.next (if_pos ⟨hroom, hr⟩)

/-- Without a RELEASED read or without room nothing moves. -/
theorem exec_releasedReadMove_none {s : State} (h : (∀ g ∈ s.hold, g.cond = .held) ∨ 8 ≤ s.forward.length) :
    exec .releasedReadMove s = .next s := by
  cases hfind : s.hold.findIdx? (fun g => g.cond == .released) with
  | none => simp only [exec, execReleasedReadMove, hfind]
  | some i =>
    obtain ⟨before, g, after', hsplit, rfl, hg, -⟩ := split_of_findIdx? hfind
    have hfull : ¬ (s.forward.length < Config.forwardCap ∧ s.rstAsserted = false) := by
      rcases h with h | h
      · have := h g (by rw [hsplit]; simp)
        simp [this] at hg
      · exact fun hlt => absurd hlt.1 (Nat.not_lt.2 h)
    have hget : s.hold[before.length]? = some g := by rw [hsplit, getElem?_length_append]
    simp only [exec, execReleasedReadMove, hfind, hget]
    exact congrArg Host.Outcome.next (if_neg hfull)

/-- Settles O42: the move, and the drain test of the read's channel by its two outcomes. -/
theorem releasedReadMoves : Obligations.ReleasedReadMoves := by
  unfold Obligations.ReleasedReadMoves
  intro s hr
  refine ⟨?_, exec_releasedReadMove_none⟩
  intro before after' h hsplit hh hbefore hroom moved
  have hmove := exec_releasedReadMove_of_split hr hsplit hh hbefore hroom
  refine ⟨fun hd => ?_, fun hstate hdrained => ?_⟩
  · rw [hmove, State.drainTest_of_not_drained (s := moved) hd]
    rfl
  · rw [hmove, State.drainTest_of_drained (s := moved) ⟨hstate, hdrained⟩]
    rfl

/-! ## The words of a record (R85, R173) -/

theorem extractLsb'_append_low {n m : Nat} (hi : BitVec n) (lo : BitVec m) : (hi ++ lo).extractLsb' 0 m = lo := by
  apply BitVec.eq_of_getLsbD_eq
  intro i hi'
  simp [BitVec.getLsbD_append, hi']

theorem extractLsb'_append_high {n m : Nat} (hi : BitVec n) (lo : BitVec m) : (hi ++ lo).extractLsb' m n = hi := by
  apply BitVec.eq_of_getLsbD_eq
  intro i hi'
  simp [BitVec.getLsbD_append, hi']

theorem getLsbD_append_of_le {n m i : Nat} {hi : BitVec n} {lo : BitVec m} (h : m ≤ i) :
    (hi ++ lo).getLsbD i = hi.getLsbD (i - m) := by
  rw [BitVec.getLsbD_append, if_neg (Nat.not_lt.2 h)]

theorem getLsbD_append_ofBool {n : Nat} (hi : BitVec n) (b : Bool) : (hi ++ BitVec.ofBool b).getLsbD 0 = b := by
  rw [BitVec.getLsbD_append, if_pos Nat.zero_lt_one]
  cases b <;> rfl

section
variable (c : ChanId) (seq : Half) (kind : RecordKind) (cf : CondFlags) (p : PendingFlags) (np sv av : Bool)

/-- The sequence number is the low half of word 0. -/
theorem recordWord0_seq : (recordWord0 c seq kind cf p np sv av).extractLsb' 0 16 = seq :=
  extractLsb'_append_low (m := 16) _ seq

/-- The kind stands at bits 16 and 17. -/
theorem recordWord0_kind : (recordWord0 c seq kind cf p np sv av).extractLsb' 16 2 = kind.code :=
  (BitVec.extractLsb'_append_eq_of_le (w := 16) (start := 16) le_rfl).trans (extractLsb'_append_low (m := 2) _ _)

/-- The channel stands at bits 28 to 31. -/
theorem recordWord0_chan : (recordWord0 c seq kind cf p np sv av).extractLsb' 28 4 = BitVec.ofNat 4 c.val := by
  unfold recordWord0
  repeat rw [BitVec.extractLsb'_append_eq_of_le (by decide)]
  simp

/-- The ten flags stand at bits 18 to 27. -/
theorem recordWord0_flags : let w := recordWord0 c seq kind cf p np sv av
    w.getLsbD 18 = cf.limited ∧ w.getLsbD 19 = cf.slewing ∧ w.getLsbD 20 = cf.priming
      ∧ w.getLsbD 21 = p.afterSynth ∧ w.getLsbD 22 = p.faultSeen ∧ w.getLsbD 23 = p.resynced
      ∧ w.getLsbD 24 = p.reacquired ∧ w.getLsbD 25 = np ∧ w.getLsbD 26 = sv ∧ w.getLsbD 27 = av := by
  unfold recordWord0
  refine ⟨?_, ?_, ?_, ?_, ?_, ?_, ?_, ?_, ?_, ?_⟩ <;>
  · repeat rw [getLsbD_append_of_le (by decide)]
    exact getLsbD_append_ofBool _ _

end

/-- V as a record carries it lies between the ends of signed 32 bits (R85). -/
theorem saturate32_toInt (v : Pos) : (saturate32 v).toInt =
    if 2147483647 < v.toInt then 2147483647 else if v.toInt < -2147483648 then -2147483648 else v.toInt := by
  rw [saturate32, BitVec.toInt_ofInt]
  split
  · rw [Int.bmod_eq_of_le] <;> omega
  · split <;> (rw [Int.bmod_eq_of_le] <;> omega)

/-- Settles O40: word 0 by its fields, and the halves of the other words. -/
theorem recordWordsLaidOut : Obligations.RecordWordsLaidOut := by
  unfold Obligations.RecordWordsLaidOut
  intro c ch kind f np time r w rt
  have hw0 : w 0 = recordWord0 c rt.nextSeq kind f rt.pend np rt.statusValid rt.auxValid := rfl
  have hw2 : w 2 = rt.auxStatus ++ rt.op.extractLsb' 32 16 := rfl
  have hw5 : w 5 = rt.nextSeq ++ rt.ep.extractLsb' 32 16 := rfl
  have hw6 : w 6 = saturate32 rt.vel := rfl
  obtain ⟨h18, h19, h20, h21, h22, h23, h24, h25, h26, h27⟩ :=
    recordWord0_flags c rt.nextSeq kind f rt.pend np rt.statusValid rt.auxValid
  rw [hw0, hw2, hw5, hw6]
  refine ⟨rfl, rfl, rfl, recordWord0_seq .., ?kind, h18, h19, h20, h21, h22, h23, h24, h25, h26, h27, ?chan, rfl,
    extractLsb'_append_low _ _, extractLsb'_append_high _ _, rfl, rfl, extractLsb'_append_low _ _,
    extractLsb'_append_high _ _, saturate32_toInt _, rfl⟩
  case kind =>
    rw [recordWord0_kind]
    cases kind <;> rfl
  case chan =>
    rw [recordWord0_chan, BitVec.toNat_ofNat]
    omega

end Sys2Proof.Machine
end

section
/-! PROOFS. Disabling channels (1.3, 5.6, 9.5): what DISABLE_CHANNEL and SOFT_RESET leave, for any set of channels at once, and
the completion of a soft reset. -/

namespace Sys2Proof.Machine

/-! ## The channels of a set disabled at once -/

/-- An entry that is no orphan serves a record of the channel, or a read is held for it (R16). -/
def State.drainBusy (s : State) (c : ChanId) : Bool :=
  (List.finRange 24).any (fun e => (s.entry e).holdsDrain c) || s.hold.any fun h => h.chan == c

/-- The channel as its disabling leaves it: in WAITING, RUNNING or LOST, DRAINING or DISABLED and without deadline (R14). -/
def Channel.disabledTo (ch : Channel) (busy : Bool) : Channel :=
  if ch.rt.state.intakeMatched then
    { ch with rt := { ch.rt with state := if busy then .draining else .disabled, deadline := none } }
  else ch

/-- The disabling of its channel releases the read: a queued record names its slot, and no outstanding one does (R99, R101). -/
def State.freed (s : State) (h : HoldEntry) : Bool :=
  (s.chan h.chan).rt.state.intakeMatched && s.records.any (fun r => r.chan == h.chan && r.slot == h.slot)
    && !s.outstanding.any (fun o => o.chan == h.chan && o.slot == h.slot)

/-- The channels of a set disabled: what DISABLE_CHANNEL does for one, and SOFT_RESET for all. -/
def State.disableAll (s : State) (D : ChanId → Bool) : State :=
  { s with
    chans := Vector.ofFn fun c => if D c then (s.chan c).disabledTo (s.drainBusy c) else s.chan c
    records := s.records.filter fun r => !(D r.chan && (s.chan r.chan).rt.state.intakeMatched)
    hold := s.hold.map fun h => if D h.chan && s.freed h then { h with cond := .released } else h }

/-- The CH_DRAINED of a channel that its disabling leaves DISABLED. -/
def State.drainEvents (s : State) (c : ChanId) : List RawEvent :=
  if (s.chan c).rt.state.intakeMatched && !s.drainBusy c then [⟨.chDrained, some c, 0⟩] else []

theorem State.chan_disableAll (s : State) (D : ChanId → Bool) (c : ChanId) :
    (s.disableAll D).chan c = if D c then (s.chan c).disabledTo (s.drainBusy c) else s.chan c := by
  simp [State.disableAll, State.chan]

theorem Channel.disabledTo_of_matched {ch : Channel} (h : ch.rt.state.intakeMatched = true) (busy : Bool) :
    ch.disabledTo busy =
      { ch with rt := { ch.rt with state := if busy then .draining else .disabled, deadline := none } } := if_pos h

theorem Channel.disabledTo_of_not_matched {ch : Channel} (h : ch.rt.state.intakeMatched = false) (busy : Bool) :
    ch.disabledTo busy = ch := if_neg (by simp [h])

/-- A disabled channel is matched no more (R19). -/
theorem Channel.disabledTo_not_matched (ch : Channel) (busy : Bool) :
    (ch.disabledTo busy).rt.state.intakeMatched = false := by
  cases h : ch.rt.state.intakeMatched with
  | true => rw [disabledTo_of_matched h]; cases busy <;> rfl
  | false => rw [disabledTo_of_not_matched h, h]

/-- The disabling of channels that are not live changes nothing. -/
theorem State.disableAll_of_not_matched {s : State} {D : ChanId → Bool}
    (h : ∀ c, D c = true → (s.chan c).rt.state.intakeMatched = false) : s.disableAll D = s := by
  have hchans : (Vector.ofFn fun c => if D c then (s.chan c).disabledTo (s.drainBusy c) else s.chan c) = s.chans := by
    apply Vector.ext
    intro c hc
    rw [Vector.getElem_ofFn]
    split
    · next hd =>
      rw [Channel.disabledTo_of_not_matched (h _ hd)]
      rfl
    · rfl
  have hrecords : (s.records.filter fun r => !(D r.chan && (s.chan r.chan).rt.state.intakeMatched)) = s.records := by
    rw [List.filter_eq_self]
    intro r _
    cases hd : D r.chan <;> simp [h, hd]
  have hhold : (s.hold.map fun g => if D g.chan && s.freed g then { g with cond := .released } else g) = s.hold := by
    rw [List.map_congr_left (g := id), List.map_id]
    intro g _
    cases hd : D g.chan <;> simp [State.freed, h, hd]
  simp only [State.disableAll, hchans, hrecords, hhold]

theorem State.disableAll_single_of_not_matched {s : State} {c : ChanId} (h : (s.chan c).rt.state.intakeMatched = false) :
    s.disableAll (· == c) = s :=
  disableAll_of_not_matched fun d hd => by rw [beq_iff_eq.1 hd, h]

/-- The channel's queued records discarded, with the reservations they alone held (R99). -/
theorem State.discard_eq (s : State) (c : ChanId) : s.discard c =
    { s with
      records := s.records.filter fun r => r.chan != c
      hold := s.hold.map fun h =>
        if h.chan == c && s.records.any (fun r => r.chan == c && r.slot == h.slot)
            && !s.outstanding.any (fun o => o.chan == c && o.slot == h.slot) then
          { h with cond := .released }
        else h } := by
  have hkept (slot : Nat) : (s.records.filter fun r => r.chan != c).any (fun r => r.chan == c && r.slot == slot) = false := by
    simp only [List.any_eq_false, List.mem_filter, bne_iff_ne, Bool.and_eq_true, beq_iff_eq]
    rintro r ⟨-, hr⟩ ⟨hc, -⟩
    exact hr hc
  have hgone (slot : Nat) : (s.records.filter fun r => r.chan == c).any (fun r => r.slot == slot)
      = s.records.any fun r => r.chan == c && r.slot == slot := List.any_filter
  simp only [State.discard, State.endReservations, State.reserved, hkept, hgone, Bool.false_or]

/-- The drain condition after the discard of a channel's records: nothing but records stood in the way. -/
theorem State.drained_eq_not_drainBusy {s : State} {c : ChanId} (h : ∀ r ∈ s.records, r.chan ≠ c) :
    s.drained c = !s.drainBusy c := by
  have hrecords : s.records.all (fun r => r.chan != c) = true := by simpa using h
  simp only [State.drained, State.drainBusy, hrecords, Bool.true_and, Bool.not_or, List.not_any_eq_all_not]
  rfl

/-- One live channel disabled, its fields written out (R14, R99, R101). -/
theorem State.disableAll_single {s : State} {c : ChanId} (h : (s.chan c).rt.state.intakeMatched = true) :
    s.disableAll (· == c) = { s with
      chans := s.chans.set c { s.chan c with
        rt := { (s.chan c).rt with state := if s.drainBusy c then .draining else .disabled, deadline := none } }
      records := s.records.filter fun r => r.chan != c
      hold := s.hold.map fun h =>
        if h.chan == c && s.records.any (fun r => r.chan == c && r.slot == h.slot)
            && !s.outstanding.any (fun o => o.chan == c && o.slot == h.slot) then
          { h with cond := .released }
        else h } := by
  have hchans : (Vector.ofFn fun d => if d == c then (s.chan d).disabledTo (s.drainBusy d) else s.chan d)
      = s.chans.set c ((s.chan c).disabledTo (s.drainBusy c)) := by
    apply Vector.ext
    intro d hd
    rw [Vector.getElem_ofFn, Vector.getElem_set]
    by_cases e : c = ⟨d, hd⟩
    · subst e; simp
    · have hv : ¬ c.val = d := fun h => e (Fin.ext h)
      have hne : (⟨d, hd⟩ : Fin 12) ≠ c := fun h => e h.symm
      simp [hv, hne, State.chan]
  have hrecords : (s.records.filter fun r => !(r.chan == c && (s.chan r.chan).rt.state.intakeMatched))
      = s.records.filter fun r => r.chan != c := by
    refine List.filter_congr fun r _ => ?_
    by_cases hc : r.chan = c <;> simp [hc, h, bne]
  have hhold : (s.hold.map fun g => if g.chan == c && s.freed g then { g with cond := .released } else g)
      = s.hold.map fun g =>
        if g.chan == c && s.records.any (fun r => r.chan == c && r.slot == g.slot)
            && !s.outstanding.any (fun o => o.chan == c && o.slot == g.slot) then
          { g with cond := .released }
        else g := by
    refine List.map_congr_left fun g _ => ?_
    by_cases hc : g.chan = c <;> simp [hc, State.freed, h]
  rw [Channel.disabledTo_of_matched h] at hchans
  simp only [State.disableAll, hchans, hrecords, hhold]

/-- Whether something of the channel is left is read from the Tracking Table and the channels of the held reads. -/
theorem State.drainBusy_congr {s t : State} (htable : t.table = s.table) (hhold : t.hold.map (·.chan) = s.hold.map (·.chan))
    (c : ChanId) : t.drainBusy c = s.drainBusy c := by
  have hany (l : List HoldEntry) : l.any (fun h => h.chan == c) = (l.map (·.chan)).any (· == c) := by
    rw [List.any_map]; rfl
  simp only [State.drainBusy, State.entry, htable, hany, hhold]

/-- What the disabling of one channel does (R14, R16, R99, R101). -/
theorem State.disable_eq (s : State) (c : ChanId) : s.disable c = (s.disableAll (· == c), s.drainEvents c) := by
  cases hm : (s.chan c).rt.state.intakeMatched with
  | false =>
    have hskip : s.disable c = (s, []) := if_neg (by simp [hm])
    rw [hskip, disableAll_single_of_not_matched hm, State.drainEvents, hm]
    rfl
  | true =>
    have hlive : s.disable c = State.drainTest (State.discard (s.setChan c
        { s.chan c with rt := { (s.chan c).rt with state := .draining, deadline := none } }) c) c := if_pos hm
    rw [hlive, State.discard_eq, disableAll_single hm]
    generalize hs1 : ({ (s.setChan c _) with records := _, hold := _ } : State) = s1
    have hchan : s1.chan c = { s.chan c with rt := { (s.chan c).rt with state := .draining, deadline := none } } := by
      rw [← hs1]
      exact s.chan_setChan_self c _
    have hdrained : s1.drained c = !s.drainBusy c := by
      rw [State.drained_eq_not_drainBusy, State.drainBusy_congr (s := s)]
      · rw [← hs1]; rfl
      · rw [← hs1]
        simp only [State.setChan_hold, List.map_map]
        refine List.map_congr_left fun g _ => ?_
        simp only [Function.comp]
        split <;> rfl
      · rw [← hs1]
        simp
    cases hb : s.drainBusy c with
    | true =>
      rw [State.drainTest_of_not_drained (by simp [hdrained, hb]), State.drainEvents, hb, ← hs1]
      simp [State.setChan]
    | false =>
      rw [State.drainTest_of_drained (by simp [hchan, hdrained, hb]), State.drainEvents, hm, hb, hchan, ← hs1]
      simp [State.setChan]

/-! ## DISABLE_CHANNEL (R14, R160) -/

theorem State.drainBusy_iff (s : State) (c : ChanId) : s.drainBusy c = true ↔
    (∃ e t q x, (s.entry e).tx = some t ∧ t.orphan = false ∧ t.origin = .record c q x) ∨ ∃ h ∈ s.hold, h.chan = c := by
  simp only [State.drainBusy, Bool.or_eq_true, List.any_eq_true, List.mem_finRange, true_and, Entry.holdsDrain_iff, beq_iff_eq]

theorem LifeCycle.intakeMatched_iff (st : LifeCycle) :
    st.intakeMatched = true ↔ st = .waiting ∨ st = .running ∨ st = .lost := by
  cases st <;> simp [LifeCycle.intakeMatched]

theorem ruleDisable_eq (c : ChanId) (s : State) :
    ruleDisable c s = ⟨(s.disableAll (· == c)).logAll (s.drainEvents c), .ok, []⟩ := by
  simp only [ruleDisable, State.disable_eq, State.raise_single]

/-- Settles O17: the channel that is not live, the one that drains, and the one that is DISABLED at once. -/
theorem disableOutcomes : Obligations.DisableOutcomes := by
  unfold Obligations.DisableOutcomes
  intro c s hr hlast
  have hexec := exec_eq_answer (i := .disableChannel (BitVec.ofNat 8 c.val)) rfl (State.row_taken _ hlast hr)
    ((withChannel_ofNat c ruleDisable s).trans (ruleDisable_eq c s))
  rw [hexec]
  refine ⟨fun hstate => ?_, ?_⟩
  · have hm : (s.chan c).rt.state.intakeMatched = false := by rcases hstate with h | h <;> rw [h] <;> rfl
    rw [State.disableAll_single_of_not_matched hm, State.drainEvents, hm]
    rfl
  · intro hstate freed left busy
    have hm := (LifeCycle.intakeMatched_iff _).2 hstate
    rw [State.disableAll_single hm, State.drainEvents, hm]
    refine ⟨fun hb => ?_, fun hb => ?_⟩
    · rw [(s.drainBusy_iff c).2 hb]
      rfl
    · have hfree : s.drainBusy c = false := by rw [← Bool.not_eq_true, s.drainBusy_iff]; exact hb
      rw [hfree]
      rfl

/-! ## SOFT_RESET (R166) -/

section
variable {s : State} {D : ChanId → Bool}

theorem State.drainBusy_disableAll (c : ChanId) : (s.disableAll D).drainBusy c = s.drainBusy c := by
  refine State.drainBusy_congr (t := s.disableAll D) (s := s) rfl ?_ c
  simp only [State.disableAll, List.map_map]
  refine List.map_congr_left fun g _ => ?_
  simp only [Function.comp]
  split <;> rfl

theorem State.chan_disableAll_of_not {c : ChanId} (h : D c = false) : (s.disableAll D).chan c = s.chan c := by
  rw [State.chan_disableAll, h]
  rfl

theorem State.chan_disableAll_of {c : ChanId} (h : D c = true) :
    (s.disableAll D).chan c = (s.chan c).disabledTo (s.drainBusy c) := by
  rw [State.chan_disableAll, h]
  rfl

/-- The disabling of a set releases no read of a channel outside it. -/
theorem State.freed_disableAll_of_not {h : HoldEntry} (hD : D h.chan = false) : (s.disableAll D).freed h = s.freed h := by
  have hrecords : (s.disableAll D).records.any (fun r => r.chan == h.chan && r.slot == h.slot)
      = s.records.any fun r => r.chan == h.chan && r.slot == h.slot := by
    simp only [State.disableAll, List.any_filter]
    refine congrArg (List.any s.records) (funext fun r => ?_)
    by_cases hc : r.chan = h.chan <;> simp [hc, hD]
  simp only [State.freed, hrecords, State.chan_disableAll_of_not hD]
  rfl

theorem State.drainEvents_disableAll_of_not {c : ChanId} (h : D c = false) :
    (s.disableAll D).drainEvents c = s.drainEvents c := by
  simp only [State.drainEvents, State.chan_disableAll_of_not h, State.drainBusy_disableAll]

/-- Two sets apart disabled one after the other. -/
theorem State.disableAll_disableAll {E : ChanId → Bool} (hDE : ∀ c, D c = true → E c = false) :
    (s.disableAll D).disableAll E = s.disableAll fun c => D c || E c := by
  have hchans : ((s.disableAll D).disableAll E).chans = (s.disableAll fun c => D c || E c).chans := by
    apply Vector.ext
    intro c hc
    change ((s.disableAll D).disableAll E).chan ⟨c, hc⟩ = (s.disableAll fun c => D c || E c).chan ⟨c, hc⟩
    rw [State.chan_disableAll, State.chan_disableAll s fun c => D c || E c, State.drainBusy_disableAll]
    cases hd : D ⟨c, hc⟩ with
    | true =>
      rw [hDE _ hd, State.chan_disableAll_of hd]
      rfl
    | false => rw [State.chan_disableAll_of_not hd, Bool.false_or]
  have hrecords : ((s.disableAll D).disableAll E).records = (s.disableAll fun c => D c || E c).records := by
    change ((s.disableAll D).records.filter fun r => !(E r.chan && ((s.disableAll D).chan r.chan).rt.state.intakeMatched)) = _
    simp only [State.disableAll.eq_def s, List.filter_filter]
    refine List.filter_congr fun r _ => ?_
    cases hd : D r.chan with
    | true => simp [hDE _ hd]
    | false =>
      have hchan := State.chan_disableAll_of_not (s := s) hd
      rw [State.disableAll] at hchan
      rw [hchan]
      simp
  have hhold : ((s.disableAll D).disableAll E).hold = (s.disableAll fun c => D c || E c).hold := by
    change ((s.hold.map fun h => if D h.chan && s.freed h then { h with cond := .released } else h).map
      fun h => if E h.chan && (s.disableAll D).freed h then { h with cond := .released } else h)
      = s.hold.map fun h => if (D h.chan || E h.chan) && s.freed h then { h with cond := .released } else h
    rw [List.map_map]
    refine List.map_congr_left fun h _ => ?_
    simp only [Function.comp]
    cases hd : D h.chan with
    | true =>
      cases hf : s.freed h <;> simp [hDE _ hd]
    | false => simp [State.freed_disableAll_of_not hd]
  calc (s.disableAll D).disableAll E
      = { s with
          chans := ((s.disableAll D).disableAll E).chans
          records := ((s.disableAll D).disableAll E).records
          hold := ((s.disableAll D).disableAll E).hold } := rfl
    _ = s.disableAll fun c => D c || E c := by rw [hchans, hrecords, hhold]; rfl

end

/-- Channels disabled in turn, each once: the set at once, and each one's events. -/
theorem State.disableEach_eq {cs : List ChanId} (hcs : cs.Nodup) (s : State) :
    s.disableEach cs = (s.disableAll fun c => decide (c ∈ cs), cs.map s.drainEvents) := by
  induction cs generalizing s with
  | nil =>
    have hnone : s.disableAll (fun c => decide (c ∈ [])) = s := State.disableAll_of_not_matched (by simp)
    rw [hnone]
    rfl
  | cons c cs ih =>
    obtain ⟨hc, hcs⟩ := List.nodup_cons.1 hcs
    have hapart : ∀ d, (d == c) = true → decide (d ∈ cs) = false := by
      intro d hd
      rw [beq_iff_eq.1 hd, decide_eq_false_iff_not]
      exact hc
    have hevents : cs.map (s.disableAll (· == c)).drainEvents = cs.map s.drainEvents := by
      refine List.map_congr_left fun d hd => State.drainEvents_disableAll_of_not ?_
      rw [beq_eq_false_iff_ne]
      rintro rfl
      exact hc hd
    simp only [State.disableEach, State.disable_eq, ih hcs, State.disableAll_disableAll hapart, hevents, List.mem_cons,
      List.map_cons, Bool.decide_or]
    rfl

/-- What SOFT_RESET does: every channel disabled, and RESETTING set (R166). -/
theorem ruleSoftReset_eq (s : State) : ruleSoftReset s =
    ⟨State.raise { s.disableAll (fun _ => true) with resetting := true } ((List.finRange 12).map s.drainEvents), .ok, []⟩ := by
  have hall : (fun c : ChanId => decide (c ∈ List.finRange 12)) = fun _ => true := by
    funext c
    simp
  simp only [ruleSoftReset, State.disableEach_eq (List.nodup_finRange 12), hall]
  rfl

/-- The CH_DRAINED events of a soft reset are those of the live channels of which nothing is left. -/
theorem State.flatten_drainEvents (s : State) (cs : List ChanId) : (cs.map s.drainEvents).flatten =
    (cs.filter fun c => (s.chan c).rt.state.intakeMatched && !s.drainBusy c).map fun c => ⟨.chDrained, some c, 0⟩ := by
  induction cs with
  | nil => rfl
  | cons c cs ih =>
    rw [List.map_cons, List.flatten_cons, ih, List.filter_cons, State.drainEvents]
    split <;> rfl

/-- Settles O23: the set of all channels disabled at once, and the order in which their events are entered. -/
theorem softResetDisablesChannels : Obligations.SoftResetDisablesChannels := by
  unfold Obligations.SoftResetDisablesChannels
  intro s hr hlast live busy freed
  have hlive (c : ChanId) : (s.chan c).rt.state.intakeMatched = true ↔ live c := LifeCycle.intakeMatched_iff _
  obtain ⟨order, k, hraise, hperm, -⟩ := State.raise_eq { s.disableAll (fun _ => true) with resetting := true }
    ((List.finRange 12).map s.drainEvents)
  rw [State.flatten_drainEvents] at hperm
  obtain ⟨gone, rfl, hgone⟩ := (congrFun₂ (List.eq_map_comp_perm _) _ _).mpr hperm
  have hmem (c : ChanId) : c ∈ gone ↔ live c ∧ ¬ busy c := by
    rw [hgone.mem_iff, List.mem_filter, Bool.and_eq_true, hlive, Bool.not_eq_true', ← Bool.not_eq_true, s.drainBusy_iff]
    simp [busy]
  refine ⟨gone, k, (s.disableAll fun _ => true).chans, ?_, ?_, hmem, fun c => ⟨fun hc => ?_, fun hc => ?_⟩⟩
  · have hexec := exec_eq_answer (i := .softReset) rfl (State.row_taken _ hlast hr) (ruleSoftReset_eq s)
    rw [hexec, hraise]
    simp only [State.disableAll, Bool.true_and]
    rfl
  · exact hgone.nodup_iff.2 ((List.nodup_finRange 12).filter _)
  · have hm : (s.chan c).rt.state.intakeMatched = false := by rw [← Bool.not_eq_true, hlive]; exact hc
    exact (State.chan_disableAll_of rfl).trans (Channel.disabledTo_of_not_matched hm _)
  · refine (State.chan_disableAll_of rfl).trans ((Channel.disabledTo_of_matched ((hlive c).2 hc) _).trans ?_)
    have hbusy : s.drainBusy c = true ↔ c ∉ gone := by
      rw [hmem]
      exact ⟨fun hb hg => hg.2 ((s.drainBusy_iff c).1 hb),
        fun hg => (s.drainBusy_iff c).2 (by_contra fun hb => hg ⟨hc, hb⟩)⟩
    by_cases hg : c ∈ gone
    · have : s.drainBusy c = false := by rw [← Bool.not_eq_true, hbusy]; exact not_not_intro hg
      simp [hg, this]
    · simp [hg, hbusy.2 hg]

/-! ## The completion of a soft reset (R168, R169) -/

theorem Entry.live_iff (x : Entry) : x.live = true ↔ ∃ t, x.tx = some t ∧ t.orphan = false := by
  unfold Entry.live
  cases x.tx <;> simp

theorem State.resetComplete_iff (s : State) : s.resetComplete = true ↔ s.intake = [] ∧ s.forward = [] ∧ s.hold = []
    ∧ s.records = [] ∧ ∀ e, (s.entry e).live = false := by
  simp [State.resetComplete, and_assoc]

theorem Entry.live_eq_false_iff (x : Entry) : x.live = false ↔ ∀ t, x.tx = some t → t.orphan = true := by
  rw [← Bool.not_eq_true, Entry.live_iff]
  simp

/-- Settles O24: the condition by its parts, the clearing as the next state, and the frame when there is no completion. -/
theorem softResetCompletionClears : Obligations.SoftResetCompletionClears := by
  unfold Obligations.SoftResetCompletionClears
  refine ⟨fun s => ?condition, fun s hr hset hc => ?completion, fun s h => ?none⟩
  case condition => simp only [s.resetComplete_iff, Entry.live_eq_false_iff]
  case completion =>
    have hexec : exec .softResetCompletion s =
        .next { (s.softCleared.raise [[⟨.resetDone, none, 0⟩]]) with resetting := false } :=
      congrArg Host.Outcome.next (if_pos ⟨hset, hr, hc⟩)
    rw [hexec, State.raise_single, State.logAll_singleton]
    have hmask : s.softCleared.eventMask = s.eventMask := rfl
    cases hk : kindEnabled s.eventMask .resetDone with
    | true =>
      rw [State.logEvent_of_room (by rw [hmask]; exact hk) (by simp [State.softCleared])]
      rfl
    | false =>
      rw [State.logEvent_of_masked (by rw [hmask]; exact hk)]
      rfl
  case none =>
    refine congrArg Host.Outcome.next (if_neg ?_)
    rintro ⟨hset, -, hc⟩
    rcases h with h | h
    · exact absurd (h.symm.trans hset) (by decide)
    · exact absurd (h.symm.trans hc) (by decide)

end Sys2Proof.Machine
end

section
/-! PROOFS. The Downstream Port (07_downstream_port.md): tags, the arbiter and its grants, the placing of requests, responses and
timeouts. -/

namespace Sys2Proof.Machine

/-! ## Downstream tags (R125) -/

theorem downTag_toNat (e : EntryId) (g : BitVec 3) : (downTag e g).toNat = e.val + 24 * g.toNat := by
  have he := e.isLt
  have hg := g.isLt
  rw [downTag, BitVec.toNat_ofNat]
  omega

theorem downTag_toNat_lt (e : EntryId) (g : BitVec 3) : (downTag e g).toNat < 192 := by
  have he := e.isLt
  have hg := g.isLt
  rw [downTag_toNat]
  omega

theorem tagTarget_of_le {t : Byte} (h : 192 ≤ t.toNat) : tagTarget t = none := if_neg (Nat.not_lt.2 h)

theorem tagTarget_of_lt {t : Byte} (h : t.toNat < 192) : tagTarget t =
    some (⟨t.toNat % 24, Nat.mod_lt _ (by decide)⟩, BitVec.ofNat 3 (t.toNat / 24)) := if_pos h

/-- The tag that names an entry at a generation is that entry's tag at it. -/
theorem tagTarget_eq_some_iff (t : Byte) (e : EntryId) (g : BitVec 3) : tagTarget t = some (e, g) ↔ t = downTag e g := by
  constructor
  · intro h
    have ht : t.toNat < 192 := by
      by_contra hn
      rw [tagTarget_of_le (Nat.not_lt.1 hn)] at h
      exact absurd h (by simp)
    rw [tagTarget_of_lt ht, Option.some.injEq, Prod.mk.injEq] at h
    obtain ⟨rfl, rfl⟩ := h
    apply BitVec.eq_of_toNat_eq
    rw [downTag_toNat, BitVec.toNat_ofNat]
    dsimp only
    omega
  · rintro rfl
    exact tagTarget_downTag e g

/-- The request offered is that of the oldest entry of the send order. -/
theorem State.dqOffer_eq_some {s : State} {q : Request} (h : s.dqOffer = some q) : ∃ e rest t init,
    s.sendOrder = e :: rest ∧ s.offeredInit = some init ∧ (s.entry e).tx = some t
      ∧ t.request e (s.entry e).gen init = some q := by
  unfold State.dqOffer at h
  split at h
  case h_2 => exact absurd h (by simp)
  case h_1 e rest init horder hinit =>
    obtain ⟨t, ht, hq⟩ := Option.bind_eq_some_iff.1 h
    exact ⟨e, rest, t, init, horder, hinit, ht, hq⟩

theorem Transaction.request_eq_some {t : Transaction} {e : EntryId} {gen : BitVec 3} {init : BitVec 4} {q : Request}
    (h : t.request e gen init = some q) : ∃ be data, t.phase = .granted be data
      ∧ q = ⟨t.kind, t.addr, t.len, be, init, downTag e gen, data⟩ := by
  unfold Transaction.request at h
  split at h
  case h_1 be data hphase => exact ⟨be, data, hphase, (Option.some.inj h).symm⟩
  case h_2 => exact absurd h (by simp)

/-- Settles O43: a tag by its value, read back both ways, and the tag of the offer. -/
theorem downstreamTagsNameEntries : Obligations.DownstreamTagsNameEntries := by
  unfold Obligations.DownstreamTagsNameEntries
  refine ⟨fun e g => ⟨downTag_toNat e g, downTag_toNat_lt e g, tagTarget_downTag e g⟩, fun t => tagTarget_of_le,
    fun t ht => ⟨_, _, tagTarget_of_lt ht, rfl, ?_⟩, rfl, rfl, fun s q hq => ?_⟩
  · rw [BitVec.toNat_ofNat]
    omega
  · obtain ⟨e, rest, t, init, horder, -, -, hrequest⟩ := State.dqOffer_eq_some hq
    obtain ⟨be, data, -, rfl⟩ := Transaction.request_eq_some hrequest
    exact ⟨e, rest, horder, rfl⟩

/-! ## Eligibility and the arbiter (R94, R127 to R129) -/

/-- A request's span and a slot of 32 bytes lie apart. -/
theorem spanOverlaps_slot_eq_false_iff (addr : Word) (len : BitVec 3) (slot : Nat) :
    spanOverlaps addr len slot 32 = false ↔ addr.toNat + 4 * len.toNat ≤ slot ∨ slot + 32 ≤ addr.toNat ∨ len = 0 := by
  have hlen : len = 0 ↔ len.toNat = 0 := by simp [← BitVec.toNat_inj]
  rw [hlen, spanOverlaps, rangesOverlap, decide_eq_false_iff_not]
  omega

theorem Entry.touches_eq_false_iff (base size : Nat) (x : Entry) :
    x.touches base size = false ↔ ∀ t, x.tx = some t → spanOverlaps t.addr t.len base size = false := by
  unfold Entry.touches
  cases x.tx <;> simp

/-- The spans of the requests that a slot of 32 bytes must wait for lie apart from it (R94). -/
theorem State.slotBusy_eq_false_iff (s : State) (base : Nat) : s.slotBusy base = false ↔
    (∀ e t, (s.entry e).tx = some t → spanOverlaps t.addr t.len base 32 = false)
      ∧ (∀ q ∈ s.forward, spanOverlaps q.addr q.len base 32 = false)
      ∧ ∀ h ∈ s.hold, h.cond = .released → spanOverlaps h.req.addr h.req.len base 32 = false := by
  simp [State.slotBusy, Entry.touches_eq_false_iff, and_assoc]

theorem State.eligible_iff (s : State) (r : Record) : s.eligible r = true ↔ s.slotBusy (s.recordStart r) = false := by
  simp [State.eligible]

theorem State.claim_isSome_iff (s : State) : s.claim.isSome = true ↔ ∃ r ∈ s.records, s.eligible r = true := by
  simp [State.claim]

theorem State.length_freeEntries (s : State) :
    s.freeEntries.length = (List.finRange 24).countP fun e => (s.entry e).tx.isNone :=
  List.countP_eq_length_filter.symm

section
variable {s : State}

theorem State.grantee_of_no_claim (hfwd : s.forward = []) (hrec : s.claim.isSome = false) : s.grantee = none := by
  simp [State.grantee, hfwd, hrec]

theorem State.grantee_of_record_alone (hfwd : s.forward = []) (hrec : s.claim.isSome = true) :
    s.grantee = if 2 ≤ s.freeEntries.length then some .record else none := by
  simp [State.grantee, hfwd, hrec]

theorem State.grantee_of_forward_alone (hfwd : s.forward ≠ []) (hrec : s.claim.isSome = false) :
    s.grantee = if 1 ≤ s.freeEntries.length then some .forward else none := by
  simp only [State.grantee, List.isEmpty_iff, hfwd, hrec, Bool.false_eq_true, if_false]

theorem State.grantee_of_priority (hfwd : s.forward ≠ []) (hlen : 6 ≤ s.records.length) (hrec : s.claim.isSome = true) :
    s.grantee = if 2 ≤ s.freeEntries.length then some .record else none := by
  have hp : s.recordPriority = true := by simp [State.recordPriority, hlen, hrec]
  simp only [State.grantee, List.isEmpty_iff, hfwd, hrec, hp, if_false, if_true]

theorem State.grantee_of_both (hfwd : s.forward ≠ []) (hlen : ¬ 6 ≤ s.records.length) (hrec : s.claim.isSome = true) :
    s.grantee = if 2 ≤ s.freeEntries.length then some (if s.lastWinner = .forward then .record else .forward)
      else if 1 ≤ s.freeEntries.length then some .forward else none := by
  have hp : s.recordPriority = false := by simp [State.recordPriority, hlen]
  simp only [State.grantee, List.isEmpty_iff, hfwd, hrec, hp, Bool.false_eq_true, if_false, if_true]
  cases s.lastWinner <;> rfl

end

/-- Settles O44: eligibility by the requests a slot waits for, and the grantee row by row. -/
theorem arbiterFollowsItsTable : Obligations.ArbiterFollowsItsTable := by
  unfold Obligations.ArbiterFollowsItsTable
  refine ⟨fun s r => ?eligible, fun s => ?table⟩
  case eligible =>
    intro slot apart
    rw [s.eligible_iff, s.slotBusy_eq_false_iff]
    simp only [spanOverlaps_slot_eq_false_iff]
    rfl
  case table =>
    intro free fwd rec_ priority
    have hfree : s.freeEntries.length = free := s.length_freeEntries
    have hclaim : s.claim.isSome = true ↔ rec_ := s.claim_isSome_iff
    have hno (h : ¬ rec_) : s.claim.isSome = false := by rw [← Bool.not_eq_true, hclaim]; exact h
    have hnot (h : ¬ fwd) : s.forward = [] := not_not.1 h
    refine ⟨fun h0 => ?_, fun hf hr => State.grantee_of_no_claim (hnot hf) (hno hr), fun hf hr h1 => ?_,
      fun hf hr => ?_, fun hf hr hp h1 => ?_, fun hf hr hp h2 => ?_, fun hf hp => ?_⟩
    · unfold State.grantee
      simp [hfree, h0]
    · rw [State.grantee_of_forward_alone hf (hno hr), hfree, if_pos h1]
    · rw [State.grantee_of_record_alone (hnot hf) (hclaim.2 hr), hfree]
    · rw [State.grantee_of_both hf (fun h6 => hp ⟨h6, hr⟩) (hclaim.2 hr), hfree, if_neg (by omega), if_pos (by omega)]
    · rw [State.grantee_of_both hf (fun h6 => hp ⟨h6, hr⟩) (hclaim.2 hr), hfree, if_pos h2]
    · rw [State.grantee_of_priority hf hp.1 (hclaim.2 hp.2), hfree]

/-! ## Grants (R127, R130) -/

/-- The free entries, lowest number first. -/
theorem State.freeEntries_sorted (s : State) : s.freeEntries.Pairwise (· < ·) :=
  (List.pairwise_lt_finRange 24).filter _

/-- The lowest free entry is the first. -/
theorem State.freeEntries_eq_cons {s : State} {e : EntryId} (he : (s.entry e).tx = none)
    (hlow : ∀ f : EntryId, f < e → (s.entry f).tx ≠ none) : ∃ rest, s.freeEntries = e :: rest := by
  have hmem := (s.mem_freeEntries e).2 he
  cases hl : s.freeEntries with
  | nil => rw [hl] at hmem; exact absurd hmem (by simp)
  | cons x rest =>
    have hsorted := s.freeEntries_sorted
    rw [hl] at hmem hsorted
    have hx : (s.entry x).tx = none := (s.mem_freeEntries x).1 (by rw [hl]; simp)
    rcases List.mem_cons.1 hmem with rfl | hrest
    · exact ⟨rest, rfl⟩
    · exact absurd hx (hlow x ((List.pairwise_cons.1 hsorted).1 e hrest))

/-- The two lowest free entries are the first two. -/
theorem State.freeEntries_eq_cons_cons {s : State} {a b : EntryId} (hab : a < b) (ha : (s.entry a).tx = none)
    (hb : (s.entry b).tx = none) (hlow : ∀ f : EntryId, f < b → f ≠ a → (s.entry f).tx ≠ none) :
    ∃ rest, s.freeEntries = a :: b :: rest := by
  obtain ⟨tail, htail⟩ := State.freeEntries_eq_cons ha fun f hf => hlow f (hf.trans hab) hf.ne
  have hsorted := s.freeEntries_sorted
  have hbmem := (s.mem_freeEntries b).2 hb
  rw [htail] at hsorted hbmem
  obtain ⟨hfirst, hsorted⟩ := List.pairwise_cons.1 hsorted
  have hbtail := (List.mem_cons.1 hbmem).resolve_left hab.ne'
  cases tail with
  | nil => exact absurd hbtail (by simp)
  | cons x rest =>
    have hx : (s.entry x).tx = none := (s.mem_freeEntries x).1 (by rw [htail]; simp)
    rcases List.mem_cons.1 hbtail with rfl | hrest
    · exact ⟨rest, htail⟩
    · exact absurd hx (hlow x ((List.pairwise_cons.1 hsorted).1 b hrest) (hfirst x (by simp)).ne')

theorem State.joinSend_offeredInit (s : State) (es : List EntryId) :
    (s.joinSend es).offeredInit = if s.sendOrder = [] then some s.partInitiator else s.offeredInit := by
  cases h : s.sendOrder <;> simp [State.joinSend, h]

theorem exec_grant {s : State} (hr : s.rstAsserted = false) : exec .grant s = .next (match s.grantee with
    | none => s
    | some .forward => s.grantForward
    | some .record => s.grantRecord) := by
  simp only [exec, execGrant, hr]
  rfl

/-- The head of the Forward Queue in the lowest free entry. -/
theorem State.grantForward_eq {s : State} {r : Request} {rest : List Request} {e : EntryId} {free : List EntryId}
    (hfwd : s.forward = r :: rest) (hfree : s.freeEntries = e :: free) : s.grantForward =
      { ({ s with forward := rest }.take e r.transaction).joinSend [e] with lastWinner := .forward } := by
  simp only [State.grantForward, hfwd, hfree]

/-- The record claimed leaves the queue and is outstanding, its halves in the two lowest free entries. -/
theorem State.grantRecord_eq {s : State} {before after' : List Record} {r : Record} {a b : EntryId} {free : List EntryId}
    (hsplit : s.records = before ++ r :: after') (hr : s.eligible r = true) (hbefore : ∀ q ∈ before, s.eligible q = false)
    (hfree : s.freeEntries = a :: b :: free) : s.grantRecord =
      { ((State.take (State.take { s with
            records := before ++ after'
            outstanding := s.outstanding ++ [⟨r.chan, r.seq, r.slot, .awaiting, .awaiting⟩] }
          a (r.transaction (s.recordStart r) .first)) b (r.transaction (s.recordStart r) .second)).joinSend [a, b]) with
        lastWinner := .record } := by
  have hclaim : s.claim = some before.length := by
    rw [State.claim, hsplit]
    exact findIdx?_of_split hr hbefore
  have hget : s.records[before.length]? = some r := by rw [hsplit, getElem?_length_append]
  have herase : s.records.eraseIdx before.length = before ++ after' := by rw [hsplit, eraseIdx_length_append]
  simp only [State.grantRecord, hclaim, hfree, hget, herase]

/-- Two entries taken one after the other. -/
theorem State.take_take {s : State} {a b : EntryId} (hab : a ≠ b) (t u : Transaction) : (s.take a t).take b u =
    { s with table := (s.table.set a ⟨(s.entry a).gen, some t⟩).set b ⟨(s.entry b).gen, some u⟩ } := by
  have hgen : ((s.take a t).entry b).gen = (s.entry b).gen := by rw [State.entry_take, if_neg hab]
  rw [State.take, hgen]
  rfl

/-- Settles O45: the two grants as next states, by the claimant. -/
theorem grantOutcomes : Obligations.GrantOutcomes := by
  unfold Obligations.GrantOutcomes
  refine ⟨fun s hr => ⟨fun r rest e hg hfwd he hlow => ?forward, fun hg => ?none⟩, ?record⟩
  case forward =>
    obtain ⟨free, hfree⟩ := State.freeEntries_eq_cons he hlow
    rw [exec_grant hr, hg]
    dsimp only
    rw [State.grantForward_eq hfwd hfree]
    cases s.sendOrder <;> rfl
  case none => rw [exec_grant hr, hg]
  case record =>
    intro s before after' r a b hr hg hsplit hel hbefore hab ha hb hlow slot lanes half apart
    obtain ⟨free, hfree⟩ := State.freeEntries_eq_cons_cons hab ha hb hlow
    obtain ⟨htable, hforward, hhold⟩ := (s.slotBusy_eq_false_iff _).1 ((s.eligible_iff r).1 hel)
    simp only [spanOverlaps_slot_eq_false_iff] at htable hforward hhold
    refine ⟨?_, htable, hforward, hhold⟩
    rw [exec_grant hr, hg]
    dsimp only
    rw [State.grantRecord_eq hsplit hel hbefore hfree]
    rw [State.take_take hab.ne]
    cases s.sendOrder <;> rfl

/-! ## Placing requests (R130, R171) -/

/-- The oldest of the send order, GRANTED, is offered. -/
theorem State.dqOffer_of_head {s : State} {e : EntryId} {rest : List EntryId} {t : Transaction} {be : Half}
    {data : BitVec 128} {init : BitVec 4} (horder : s.sendOrder = e :: rest) (ht : (s.entry e).tx = some t)
    (hp : t.phase = .granted be data) (hinit : s.offeredInit = some init) :
    s.dqOffer = some ⟨t.kind, t.addr, t.len, be, init, downTag e (s.entry e).gen, data⟩ := by
  simp only [State.dqOffer, horder, hinit, ht, Option.bind_some, Transaction.request, hp]

/-- The acceptance of the request offered (R130). -/
theorem exec_issue_of_offer {s : State} {e : EntryId} {rest : List EntryId} {t : Transaction} {q : Request}
    (hr : s.rstAsserted = false) (horder : s.sendOrder = e :: rest) (ht : (s.entry e).tx = some t)
    (hq : s.dqOffer = some q) : exec .issue s = .next { s.take e { t with phase := .issued s.tick s.respLimit } with
      sendOrder := rest
      offeredInit := if rest.isEmpty then none else some s.partInitiator
      dqOut := s.dqOut ++ [q] } := by
  simp only [exec, execIssue, hr, horder, hq, ht]
  rfl

theorem exec_issue_of_none {s : State} (hq : s.dqOffer = none) : exec .issue s = .next s := by
  simp only [exec, execIssue, hq]
  cases s.sendOrder <;> split <;> rfl

/-- Settles O46: the acceptance as next state, the signals of the offer, and the transfer an acceptance completes. -/
theorem issueAcceptsTheOffer : Obligations.IssueAcceptsTheOffer := by
  unfold Obligations.IssueAcceptsTheOffer
  refine ⟨fun s e rest t be data init hr horder ht hp hinit => ?accept, fun s q hq => ?pins, fun s t hr h => ?transfer⟩
  case accept =>
    rw [exec_issue_of_offer hr horder ht (State.dqOffer_of_head horder ht hp hinit)]
    cases rest <;> rfl
  case pins =>
    refine ⟨q.transfer, by rw [State.dqPins, hq]; rfl, ?_, rfl, rfl, rfl, rfl, enableLanes_getLsbD _ _ _,
      dataLanes_getLsbD _ _ _⟩
    cases hk : q.kind <;> simp [Request.transfer, hk, ReqKind.bit]
  case transfer =>
    cases hq : s.dqOffer with
    | none =>
      rw [exec_issue_of_none hq] at h
      cases h
      simp [State.dqPins, hq]
    | some q =>
      obtain ⟨e, rest, tx, init, horder, -, htx, -⟩ := State.dqOffer_eq_some hq
      rw [exec_issue_of_offer hr horder htx hq] at h
      cases h
      simp [State.dqTransfers, State.dqPins, hq]

/-! ## Responses (R132 to R138) -/

/-- A response matches the ISSUED entry whose tag it carries, at its present generation (R132). -/
theorem State.matchTag_eq_some_iff (s : State) (tag : Byte) (e : EntryId) (t : Transaction) :
    s.matchTag tag = some (e, t) ↔ tag = downTag e (s.entry e).gen ∧ (s.entry e).tx = some t
      ∧ ∃ stamp limit, t.phase = .issued stamp limit := by
  constructor
  · intro h
    unfold State.matchTag at h
    split at h
    case h_1 => exact absurd h (by simp)
    case h_2 f g htarget =>
      split at h
      case h_2 => exact absurd h (by simp)
      case h_1 u hu =>
        split at h
        case h_2 => exact absurd h (by simp)
        case h_1 stamp limit hphase =>
          obtain ⟨hgen, hsome⟩ := Option.ite_none_right_eq_some.1 h
          simp only [Option.some.injEq, Prod.mk.injEq] at hsome
          obtain ⟨rfl, rfl⟩ := hsome
          exact ⟨by rw [hgen]; exact (tagTarget_eq_some_iff _ _ _).1 htarget, hu, stamp, limit, hphase⟩
  · rintro ⟨rfl, ht, stamp, limit, hphase⟩
    simp only [State.matchTag, tagTarget_downTag, ht, hphase, if_true]

theorem exec_response_of_match {s : State} {tag : Byte} {e : EntryId} {t : Transaction} (hr : s.rstAsserted = false)
    (h : s.matchTag tag = some (e, t)) (init : BitVec 4) (status : BitVec 2) (data : BitVec 128) :
    exec (.response init tag status data) s =
      .next (if t.orphan then (s.freeEntry e).strayResponse tag else s.completeTx e t status data) := by
  simp only [exec, execResponse, hr, h]
  rfl

theorem exec_response_of_stray {s : State} {tag : Byte} (hr : s.rstAsserted = false) (h : s.matchTag tag = none)
    (init : BitVec 4) (status : BitVec 2) (data : BitVec 128) :
    exec (.response init tag status data) s = .next (s.strayResponse tag) := by
  simp only [exec, execResponse, hr, h]
  rfl

/-- A stray response counted and logged (R138). -/
theorem State.strayResponse_eq (s : State) (tag : Byte) : s.strayResponse tag =
    State.logEvent { s with stray := BitVec.ofNat 16 (min 65535 (s.stray.toNat + 1)) }
      ⟨.strayResponse, none, tag.setWidth 16⟩ := by
  rw [State.strayResponse, State.raise_single, satInc_half]
  rfl

theorem zeroData_read (len : BitVec 3) : zeroData .read len = (List.range len.toNat).map fun _ => (0 : Word) := by
  simp [zeroData, List.map_const']

theorem State.completeTx_of_forward {s : State} {t : Transaction} {i : BitVec 4} {g : Byte} (ho : t.origin = .forward i g)
    (e : EntryId) (status : BitVec 2) (data : BitVec 128) : s.completeTx e t status data = (s.freeEntry e).respond
      (if status = 0 then ⟨i, g, .ok, readData t.kind t.len data⟩
        else ⟨i, g, .memoryError, zeroData t.kind t.len⟩) := by
  simp only [State.completeTx, ho]

theorem State.completeTx_of_record {s : State} {t : Transaction} {c : ChanId} {q : Half} {h : RecHalf}
    (ho : t.origin = .record c q h) (e : EntryId) (status : BitVec 2) (data : BitVec 128) :
    s.completeTx e t status data = (s.freeEntry e).halfEnded c q h (if status = 0 then .ok else .memoryError) := by
  simp only [State.completeTx, ho]

/-- The words of an answer stand at their lanes, and the other lanes are 0 (R172). -/
theorem UpResponse.transfer_lane (r : UpResponse) (k : Fin 8) :
    r.transfer.data.extractLsb' (32 * k.val) 32 = r.data.getD k.val 0 := by
  have hk := k.isLt
  apply BitVec.eq_of_toNat_eq
  rw [BitVec.extractLsb'_toNat, UpResponse.transfer, BitVec.toNat_ofNat, Nat.shiftRight_eq_div_pow, ← packWords_word]
  have hsplit : 2 ^ 256 = 2 ^ (32 * k.val) * 2 ^ (256 - 32 * k.val) := by rw [← Nat.pow_add]; congr 1; omega
  rw [hsplit, Nat.mod_mul_right_div_self, Nat.mod_mod_of_dvd]
  exact Nat.pow_dvd_pow 2 (by omega)

theorem UpStatus.code_eq (st : UpStatus) :
    st.code = match st with | .ok => 0 | .memoryError => 1 | .refused => 2 := by cases st <;> rfl

/-- Settles O47: the match by the tag, then the entry's orphan mark and origin; and the signals of an answer. -/
theorem responseOutcomes : Obligations.ResponseOutcomes := by
  unfold Obligations.ResponseOutcomes
  refine ⟨fun init tag status data s hr => ?outcomes, fun s r => ?signals⟩
  case outcomes =>
    intro matched freed stray
    refine ⟨fun e t i g hm horphan ho => ?forward, fun e t c q h hm horphan ho => ?record, fun e t hm horphan => ?orphan,
      fun hnone => ?stray⟩
    case forward =>
      rw [exec_response_of_match hr ((s.matchTag_eq_some_iff _ _ _).2 hm), horphan, if_neg Bool.false_ne_true,
        State.completeTx_of_forward ho]
      by_cases hs : status = 0
      · simp only [hs, if_true]
        cases t.kind <;> rfl
      · simp only [hs, if_false, ← zeroData_read]
        cases t.kind <;> rfl
    case record =>
      rw [exec_response_of_match hr ((s.matchTag_eq_some_iff _ _ _).2 hm), horphan, if_neg Bool.false_ne_true,
        State.completeTx_of_record ho]
      rfl
    case orphan =>
      rw [exec_response_of_match hr ((s.matchTag_eq_some_iff _ _ _).2 hm), horphan, if_pos rfl, State.strayResponse_eq]
      rfl
    case stray =>
      have hmatch : s.matchTag tag = none := by
        cases h : s.matchTag tag with
        | none => rfl
        | some p => exact absurd ((s.matchTag_eq_some_iff _ _ _).1 h) (hnone p.1 p.2)
      rw [exec_response_of_stray hr hmatch, State.strayResponse_eq]
  case signals => exact ⟨s.usTransfers_respond r, rfl, rfl, UpStatus.code_eq r.status, r.transfer_lane⟩

/-! ## Timeouts (R136) -/

theorem exec_timeout_of_issued {s : State} {e : EntryId} {t : Transaction} {stamp : Word} {limit : Nat}
    (hr : s.rstAsserted = false) (ht : (s.entry e).tx = some t) (hp : t.phase = .issued stamp limit) :
    exec (.timeout e) s = .next (if t.orphan = false ∧ reached s.tick (stamp + BitVec.ofNat 32 limit) = true then
      s.orphanTx e t else s) := by
  simp only [exec, execTimeout, ht, hp, hr, true_and]

theorem reached_iff (now t : Word) : reached now t = true ↔ (now - t).toNat < 2 ^ 31 := by
  simp [reached]

theorem State.orphanTx_of_forward {s : State} {t : Transaction} {i : BitVec 4} {g : Byte} (ho : t.origin = .forward i g)
    (e : EntryId) : s.orphanTx e t =
      (s.take e { t with orphan := true }).respond ⟨i, g, .memoryError, zeroData t.kind t.len⟩ := by
  obtain ⟨phase, orphan, origin, kind, addr, len⟩ := t
  obtain rfl : origin = .forward i g := ho
  rfl

theorem State.orphanTx_of_record {s : State} {t : Transaction} {c : ChanId} {q : Half} {h : RecHalf}
    (ho : t.origin = .record c q h) (e : EntryId) :
    s.orphanTx e t = (s.take e { t with orphan := true }).halfEnded c q h .timeout := by
  obtain ⟨phase, orphan, origin, kind, addr, len⟩ := t
  obtain rfl : origin = .record c q h := ho
  rfl

/-- Settles O48: an ISSUED entry by its orphan mark, its time and its origin. -/
theorem timeoutOrphansTheEntry : Obligations.TimeoutOrphansTheEntry := by
  unfold Obligations.TimeoutOrphansTheEntry
  intro e s hr
  refine ⟨fun t stamp limit ht hp horphan => ⟨fun hdue => ?due, fun hearly => ?early⟩, fun hnone => ?none⟩
  case due =>
    intro orphaned
    have hexec : exec (.timeout e) s = .next (s.orphanTx e t) := by
      rw [exec_timeout_of_issued hr ht hp, if_pos ⟨horphan, (reached_iff _ _).2 hdue⟩]
    refine ⟨fun i g ho => ?_, fun c q h ho => ?_⟩
    · rw [hexec, State.orphanTx_of_forward ho]
      rfl
    · rw [hexec, State.orphanTx_of_record ho]
      rfl
  case early =>
    rw [exec_timeout_of_issued hr ht hp, if_neg]
    rintro ⟨-, hreached⟩
    exact absurd ((reached_iff _ _).1 hreached) (Nat.not_lt.2 hearly)
  case none =>
    cases ht : (s.entry e).tx with
    | none => simp only [exec, execTimeout, ht]
    | some t =>
      cases hp : t.phase with
      | granted be data => simp only [exec, execTimeout, ht, hp]
      | issued stamp limit =>
        rw [exec_timeout_of_issued hr ht hp, if_neg]
        rintro ⟨horphan, -⟩
        exact absurd (horphan.symm.trans (hnone t stamp limit ht hp)) (by decide)

end Sys2Proof.Machine
end

section
/-! PROOFS. Upstream traffic (06_upstream_traffic.md): the taking of a request, the Classifier's verdict and the outcomes of an
examination. -/

namespace Sys2Proof.Machine

/-! ## The taking of a request (R105, R106, R171) -/

theorem State.uqAccept_iff (s : State) :
    s.uqAccept = true ↔ s.rstAsserted = false ∧ s.resetting = false ∧ s.intake.length < 16 := by
  simp [State.uqAccept, and_assoc]

theorem ReqKind.ofBit_eq_read_iff (b : BitVec 1) : ReqKind.ofBit b = .read ↔ b = 0 := by
  unfold ReqKind.ofBit
  split <;> simp_all

theorem ReqKind.ofBit_eq_write_iff (b : BitVec 1) : ReqKind.ofBit b = .write ↔ b = 1 := by
  have hb : b = 0 ∨ b = 1 := by revert b; decide
  rcases hb with rfl | rfl <;> decide

/-- Settles O26: the transfer is taken as the request its lanes spell, or waits. -/
theorem requestTakenOrWaits : Obligations.RequestTakenOrWaits := by
  unfold Obligations.RequestTakenOrWaits
  intro kind addr len init tag be data s
  refine ⟨fun hr hset hroom => ⟨requestOf kind addr len init tag be data, ?taken, ReqKind.ofBit_eq_read_iff kind, rfl, rfl,
    rfl, rfl, fun k => ?enables, fun k => ?data⟩, fun hnot => ?waits⟩
  case taken => exact congrArg Host.Outcome.next (if_pos ((s.uqAccept_iff).2 ⟨hr, hset, hroom⟩))
  case enables => rw [requestOf, enableLanes_getLsbD]; simp only [ReqKind.ofBit_eq_write_iff]
  case data => rw [requestOf, dataLanes_getLsbD]; simp only [ReqKind.ofBit_eq_write_iff]
  case waits =>
    refine congrArg Host.Outcome.next (if_neg fun haccept => ?_)
    obtain ⟨hr, hset, hroom⟩ := (s.uqAccept_iff).1 haccept
    rcases hnot with h | h | h
    · exact absurd (h.symm.trans hr) (by decide)
    · exact absurd (h.symm.trans hset) (by decide)
    · omega

/-! ## Ranges and windows (R18 to R20) -/

/-- Two ranges overlap exactly when an address lies in both. -/
theorem rangesOverlap_iff (a n b m : Nat) :
    rangesOverlap a n b m = true ↔ ∃ x, a ≤ x ∧ x < a + n ∧ b ≤ x ∧ x < b + m := by
  rw [rangesOverlap, decide_eq_true_eq]
  constructor
  · intro h
    exact ⟨max a b, by omega, by omega, by omega, by omega⟩
  · rintro ⟨x, h⟩
    omega

theorem rangesOverlap_comm (a n b m : Nat) : rangesOverlap a n b m = rangesOverlap b m a n := by
  rw [rangesOverlap, rangesOverlap, max_comm, min_comm]

/-- Either window of one channel overlaps either window of another, by addresses. -/
theorem windowsClash_iff (a b : ChanConfig) : windowsClash a b = true ↔
    rangesOverlap a.intakeStart 16 b.intakeStart 16 = true ∨ rangesOverlap a.intakeStart 16 b.outputStart b.outputSize = true
      ∨ rangesOverlap a.outputStart a.outputSize b.intakeStart 16 = true
      ∨ rangesOverlap a.outputStart a.outputSize b.outputStart b.outputSize = true := by
  simp [windowsClash, or_assoc]

theorem windowsClash_comm (a b : ChanConfig) : windowsClash a b = windowsClash b a := by
  rw [Bool.eq_iff_iff, windowsClash_iff, windowsClash_iff, rangesOverlap_comm b.intakeStart 16 a.intakeStart 16,
    rangesOverlap_comm b.intakeStart 16 a.outputStart, rangesOverlap_comm b.outputStart b.outputSize a.intakeStart 16,
    rangesOverlap_comm b.outputStart b.outputSize a.outputStart]
  tauto

theorem breaksForm_iff (r : Request) : breaksForm r = true ↔
    r.addr.toNat % 4 ≠ 0 ∨ r.len = 0 ∨ 16 < r.addr.toNat % 16 + 4 * r.len.toNat := by
  simp [breaksForm, or_assoc]

/-- A request in form that meets an aligned window begins in it: requests stay in a block of 16 bytes. -/
theorem addr_mem_of_spanOverlaps {r : Request} {base size : Nat} (hform : breaksForm r = false) (hbase : base % 16 = 0)
    (hsize : size % 16 = 0) (h : spanOverlaps r.addr r.len base size = true) :
    base ≤ r.addr.toNat ∧ r.addr.toNat < base + size := by
  rw [← Bool.not_eq_true, breaksForm_iff] at hform
  rw [spanOverlaps, rangesOverlap_iff] at h
  omega

/-- A request in form that meets two aligned windows begins in both, so they overlap. -/
theorem rangesOverlap_of_spanOverlaps {r : Request} {a n b m : Nat} (hform : breaksForm r = false) (ha : a % 16 = 0)
    (hn : n % 16 = 0) (hb : b % 16 = 0) (hm : m % 16 = 0) (h1 : spanOverlaps r.addr r.len a n = true)
    (h2 : spanOverlaps r.addr r.len b m = true) : rangesOverlap a n b m = true := by
  obtain ⟨hlo1, hhi1⟩ := addr_mem_of_spanOverlaps hform ha hn h1
  obtain ⟨hlo2, hhi2⟩ := addr_mem_of_spanOverlaps hform hb hm h2
  exact (rangesOverlap_iff _ _ _ _).2 ⟨_, hlo1, hhi1, hlo2, hhi2⟩

/-! ## The verdict (R108) -/

theorem find?_finRange_of_unique {n : Nat} {p : Fin n → Bool} {c : Fin n} (hc : p c = true) (huniq : ∀ d, p d = true → d = c) :
    (List.finRange n).find? p = some c := by
  rw [← Fin.find?_eq_find?_finRange, Fin.find?_eq_some_iff]
  refine ⟨hc, fun d hd => ?_⟩
  rw [Bool.eq_false_iff]
  exact fun h => hd.ne (huniq d h)

theorem find?_finRange_eq_none {n : Nat} {p : Fin n → Bool} (h : ∀ d, p d = false) : (List.finRange n).find? p = none := by
  rw [← Fin.find?_eq_find?_finRange, Fin.find?_eq_none_iff]
  simpa using h

/-- The request overlaps the channel's matched output area (R18, R19). -/
def State.meetsOutput (s : State) (r : Request) (c : ChanId) : Prop :=
  (s.chan c).rt.state ≠ .disabled ∧ spanOverlaps r.addr r.len (s.chan c).cfg.outputStart (s.chan c).cfg.outputSize = true

/-- The request overlaps the channel's matched intake window (R18, R19). -/
def State.meetsIntake (s : State) (r : Request) (c : ChanId) : Prop :=
  (s.chan c).rt.state.intakeMatched = true ∧ spanOverlaps r.addr r.len (s.chan c).cfg.intakeStart 16 = true

theorem LifeCycle.outputMatched_iff (st : LifeCycle) : st.outputMatched = true ↔ st ≠ .disabled := by
  cases st <;> simp [LifeCycle.outputMatched]

theorem LifeCycle.ne_disabled_of_intakeMatched {st : LifeCycle} (h : st.intakeMatched = true) : st ≠ .disabled := by
  rintro rfl
  exact absurd h (by decide)

section
variable {s : State} {r : Request} {c : ChanId}

theorem State.outputOwner_of_unique (hc : s.meetsOutput r c) (huniq : ∀ d, s.meetsOutput r d → d = c) :
    s.outputOwner r = some c := by
  refine find?_finRange_of_unique ?_ fun d hd => huniq d ?_
  · rw [Bool.and_eq_true, LifeCycle.outputMatched_iff]
    exact hc
  · rw [Bool.and_eq_true, LifeCycle.outputMatched_iff] at hd
    exact hd

theorem State.outputOwner_eq_none (h : ∀ d, ¬ s.meetsOutput r d) : s.outputOwner r = none := by
  refine find?_finRange_eq_none fun d => ?_
  rw [← Bool.not_eq_true, Bool.and_eq_true, LifeCycle.outputMatched_iff]
  exact h d

theorem State.intakeOwner_of_unique (hc : s.meetsIntake r c) (huniq : ∀ d, s.meetsIntake r d → d = c) :
    s.intakeOwner r = some c := by
  refine find?_finRange_of_unique ?_ fun d hd => huniq d ?_
  · rw [Bool.and_eq_true]
    exact hc
  · rw [Bool.and_eq_true] at hd
    exact hd

theorem State.intakeOwner_eq_none (h : ∀ d, ¬ s.meetsIntake r d) : s.intakeOwner r = none := by
  refine find?_finRange_eq_none fun d => ?_
  rw [← Bool.not_eq_true, Bool.and_eq_true]
  exact h d

theorem ChanConfig.admits_iff (cfg : ChanConfig) (init : BitVec 4) :
    cfg.admits init = true ↔ cfg.owner = none ∨ cfg.owner = some init := by
  cases h : cfg.owner <;> simp [ChanConfig.admits, h]

variable (hform : breaksForm r = false)
include hform

theorem State.classify_output_write (hk : r.kind = .write) (ho : s.outputOwner r = some c) :
    s.classify r = .writeRefused c := by
  simp only [State.classify, hform, hk, ho, Bool.false_eq_true, if_false]

theorem State.classify_output_read (hk : r.kind = .read) (ho : s.outputOwner r = some c) :
    s.classify r = .outputRead c := by
  simp only [State.classify, hform, hk, ho, Bool.false_eq_true, if_false]

theorem State.classify_intake (hk : r.kind = .write) (ho : s.outputOwner r = none) (hi : s.intakeOwner r = some c) :
    s.classify r = if (s.chan c).cfg.admits r.init then .intake c else .intruder c := by
  simp only [State.classify, hform, hk, ho, hi, Bool.false_eq_true, if_false]

theorem State.classify_plain (ho : s.outputOwner r = none) (hi : r.kind = .write → s.intakeOwner r = none) :
    s.classify r = .plain := by
  cases hk : r.kind with
  | read => simp only [State.classify, hform, hk, ho, Bool.false_eq_true, if_false]
  | write => simp only [State.classify, hform, hk, ho, hi hk, Bool.false_eq_true, if_false]

end

/-- While the windows lie apart and are aligned, a request in form meets the windows of one channel only, and one of them. -/
theorem State.meets_one_window {s : State} {r : Request} (hapart : s.windowsApart) (hrange : s.configInRange)
    (hform : breaksForm r = false) :
    (∀ c d, s.meetsOutput r c → s.meetsOutput r d → d = c) ∧ (∀ c d, s.meetsIntake r c → s.meetsIntake r d → d = c)
      ∧ ∀ c d, s.meetsIntake r c → ¬ s.meetsOutput r d := by
  obtain ⟨hcfg, -, -⟩ := hrange
  have hintake (c : ChanId) : (s.chan c).cfg.intakeStart % 16 = 0 := (hcfg c).1
  have houtput (c : ChanId) : (s.chan c).cfg.outputStart % 16 = 0 := by
    have := (hcfg c).2.1
    simp only [ChanConfig.outputStart]
    omega
  have hsize (c : ChanId) : (s.chan c).cfg.outputSize % 16 = 0 := by
    simp only [ChanConfig.outputSize]
    omega
  have hclash (c d : ChanId) (hc : (s.chan c).rt.state ≠ .disabled) (hd : (s.chan d).rt.state ≠ .disabled)
      (h : windowsClash (s.chan c).cfg (s.chan d).cfg = true) : d = c := by
    by_contra hne
    exact absurd ((hapart c hc).2 d hne hd) (by simp [h])
  refine ⟨fun c d hc hd => ?_, fun c d hc hd => ?_, fun c d hc hd => ?_⟩
  · refine hclash c d hc.1 hd.1 ((windowsClash_iff _ _).2 (.inr (.inr (.inr ?_))))
    exact rangesOverlap_of_spanOverlaps hform (houtput c) (hsize c) (houtput d) (hsize d) hc.2 hd.2
  · refine hclash c d (LifeCycle.ne_disabled_of_intakeMatched hc.1) (LifeCycle.ne_disabled_of_intakeMatched hd.1)
      ((windowsClash_iff _ _).2 (.inl ?_))
    exact rangesOverlap_of_spanOverlaps hform (hintake c) (by decide) (hintake d) (by decide) hc.2 hd.2
  · have hlive := LifeCycle.ne_disabled_of_intakeMatched hc.1
    have hover := rangesOverlap_of_spanOverlaps hform (hintake c) (by decide) (houtput d) (hsize d) hc.2 hd.2
    obtain rfl : d = c := hclash c d hlive hd.1 ((windowsClash_iff _ _).2 (.inr (.inl hover)))
    exact absurd (hapart d hlive).1 (by simp [hover])

/-- Settles O27: the form rule first, then the one window the request meets. -/
theorem classifierNamesTheWindow : Obligations.ClassifierNamesTheWindow := by
  unfold Obligations.ClassifierNamesTheWindow
  intro s r hapart hrange breaks meets inOutput inIntake owned
  have hmeets (base size : Nat) : meets base size ↔ spanOverlaps r.addr r.len base size = true :=
    (rangesOverlap_iff _ _ _ _).symm
  have hout (c : ChanId) : inOutput c ↔ s.meetsOutput r c := and_congr_right fun _ => hmeets _ _
  have hin (c : ChanId) : inIntake c ↔ s.meetsIntake r c :=
    and_congr (LifeCycle.intakeMatched_iff _).symm (hmeets _ _)
  refine ⟨fun hb => if_pos ((breaksForm_iff r).2 hb), fun hb => ?_⟩
  have hform : breaksForm r = false := by
    rw [← Bool.not_eq_true, breaksForm_iff]
    exact hb
  obtain ⟨houtputs, hintakes, hapart⟩ := State.meets_one_window hapart hrange hform
  have howned (c : ChanId) : owned c ↔ (s.chan c).cfg.admits r.init = true := (ChanConfig.admits_iff _ _).symm
  have houtput {c : ChanId} (hc : inOutput c) : s.outputOwner r = some c :=
    State.outputOwner_of_unique ((hout c).1 hc) fun d => houtputs c d ((hout c).1 hc)
  have hno {c : ChanId} (hc : inIntake c) : s.outputOwner r = none :=
    State.outputOwner_eq_none fun d => hapart c d ((hin c).1 hc)
  have hintake {c : ChanId} (hc : inIntake c) : s.intakeOwner r = some c :=
    State.intakeOwner_of_unique ((hin c).1 hc) fun d => hintakes c d ((hin c).1 hc)
  refine ⟨fun c hc hk => State.classify_output_write hform hk (houtput hc),
    fun c hc hk => State.classify_output_read hform hk (houtput hc), fun c hc hk hown => ?_, fun c hc hk hown => ?_,
    fun c hc hk => State.classify_plain hform (hno hc) fun hw => ?_, fun hnone => ?_⟩
  · rw [State.classify_intake hform hk (hno hc) (hintake hc), if_neg (mt (howned c).2 hown)]
  · rw [State.classify_intake hform hk (hno hc) (hintake hc), if_pos ((howned c).1 hown)]
  · exact absurd (hk.symm.trans hw) (by decide)
  · refine State.classify_plain hform (State.outputOwner_eq_none fun d => mt (hout d).2 (hnone d).1) fun _ => ?_
    exact State.intakeOwner_eq_none fun d => mt (hin d).2 (hnone d).2

/-! ## The outcomes of an examination (R107 to R115) -/

/-- No move of a RELEASED read comes before the head (R101). -/
theorem State.moveDue_eq_false {s : State} (h : (∀ x ∈ s.hold, x.cond = .held) ∨ 8 ≤ s.forward.length) :
    s.moveDue = false := by
  rw [Bool.eq_false_iff, Ne, s.moveDue_iff]
  rintro ⟨⟨x, hx, hreleased⟩, hroom⟩
  rcases h with hheld | hfull
  · rw [hheld x hx] at hreleased
    exact absurd hreleased (by decide)
  · omega

/-- A happening that logs one event and gives one answer. -/
theorem State.respond_raise_singleton (s : State) (e : RawEvent) (r : UpResponse) :
    (s.raise [[e]]).respond r = { s.logEvent e with usOut := s.usOut ++ [r] } := by
  have husOut : (s.logEvent e).usOut = s.usOut := by
    rw [← State.logAll_singleton, ← State.raise_single, State.raise_usOut]
  rw [State.raise_single, State.logAll_singleton, State.respond, husOut]

/-- A refused write: REFUSED counted, one event, one answer (R110, R111). -/
theorem State.refuseWrite_eq (s : State) (c : ChanId) (kind : EventKind) (r : Request) : s.refuseWrite c kind r =
    { State.logEvent (s.setChan c { s.chan c with ctr := (s.chan c).ctr.bumpRefused })
        ⟨kind, some c, r.init.setWidth 16⟩ with
      usOut := s.usOut ++ [r.refusal] } :=
  State.respond_raise_singleton _ _ _

/-- The head taken with an outcome that is possible. -/
theorem exec_classification_of_some {s t : State} {h : IntakeEntry} {rest : List IntakeEntry} (hr : s.rstAsserted = false)
    (hm : s.moveDue = false) (hi : s.intake = h :: rest)
    (hc : State.complete { s with intake := rest } h (s.classify h.req) = some t) : exec .classification s = .next t := by
  rw [execClassification_head hr hm hi, hc]
  rfl

/-- The head left where it is: a move is due, or its outcome finds no room. -/
theorem exec_classification_of_none {s : State} {h : IntakeEntry} {rest : List IntakeEntry} (hr : s.rstAsserted = false)
    (hi : s.intake = h :: rest)
    (hc : s.moveDue = true ∨ State.complete { s with intake := rest } h (s.classify h.req) = none) :
    exec .classification s = .next s := by
  cases hm : s.moveDue with
  | true => exact execClassification_moveDue hm
  | false =>
    rw [execClassification_head hr hm hi, hc.resolve_left (by simp [hm])]
    rfl

/-- Settles O28: each refusal, by the verdict that finds it. -/
theorem refusedRequestsAnswered : Obligations.RefusedRequestsAnswered := by
  unfold Obligations.RefusedRequestsAnswered
  intro h rest s hr hi hmove refusal bump answered
  have hrefusal : h.req.refusal = refusal := rfl
  have hm := State.moveDue_eq_false hmove
  have hwrite (c : ChanId) (kind : EventKind) : State.refuseWrite { s with intake := rest } c kind h.req =
      answered (State.logEvent { s with intake := rest, chans := bump c } ⟨kind, some c, h.req.init.setWidth 16⟩) := by
    rw [State.refuseWrite_eq, hrefusal]
    simp only [answered, bump, ← satInc_half]
    rfl
  refine ⟨fun hv => ?form, fun c hv => ?write, fun c hv => ?intruder⟩ <;>
    refine exec_classification_of_some hr hm hi ((congrArg _ hv).trans (congrArg some ?_))
  case form => rw [State.respond_raise_singleton, hrefusal, satInc_half]
  case write => exact hwrite c .writeRefused
  case intruder => exact hwrite c .intruder

theorem State.complete_plain (s : State) (h : IntakeEntry) :
    s.complete h .plain = if s.forwardRoom then some (s.joinForward h.req) else none := rfl

theorem State.complete_outputRead_free {s : State} {h : IntakeEntry} {c : ChanId}
    (hfree : s.reserved c (s.readSlot c h.req) = false) :
    s.complete h (.outputRead c) = if s.forwardRoom then some (s.joinForward h.req) else none := by
  simp only [State.complete, hfree, Bool.false_eq_true, if_false]

theorem State.complete_outputRead_reserved {s : State} {h : IntakeEntry} {c : ChanId}
    (hres : s.reserved c (s.readSlot c h.req) = true) :
    s.complete h (.outputRead c) = if s.hold.length < 8 then
        some { s with hold := s.hold ++ [⟨h.req, c, s.readSlot c h.req, .held⟩] }
      else none := by
  simp only [State.complete, hres, if_true]

/-- Settles O29: a move that is due, a head that is relayed, and a read that is held. -/
theorem relayedOrHeldByRoom : Obligations.RelayedOrHeldByRoom := by
  unfold Obligations.RelayedOrHeldByRoom
  refine ⟨fun s hreleased hroom => execClassification_moveDue (s.moveDue_iff.2 ⟨hreleased, hroom⟩), ?_⟩
  intro h rest s hr hi room relays
  have hroom : s.forwardRoom = true ↔ room := s.forwardRoom_iff
  have hrelay (hrel : relays) : State.complete { s with intake := rest } h (s.classify h.req) =
      if s.forwardRoom then some (State.joinForward { s with intake := rest } h.req) else none := by
    rcases hrel with hv | ⟨c, hv, hfree⟩
    · rw [hv]; exact State.complete_plain _ h
    · rw [hv]; exact State.complete_outputRead_free (s := { s with intake := rest }) hfree
  refine ⟨fun hrel hrm => ?relayed, fun hrel hrm => ?waits, fun c slot hv hslot hres hmove => ⟨fun hlen => ?held, fun hlen => ?full⟩⟩
  case relayed =>
    have hf := hroom.2 hrm
    exact exec_classification_of_some hr (State.moveDue_of_forwardRoom hf) hi ((hrelay hrel).trans (if_pos hf))
  case waits => exact exec_classification_of_none hr hi (.inr ((hrelay hrel).trans (if_neg fun hf => hrm (hroom.1 hf))))
  all_goals
    subst hslot
    have hheld := State.complete_outputRead_reserved (s := { s with intake := rest }) (h := h) hres
  case held =>
    exact exec_classification_of_some hr (State.moveDue_eq_false hmove) hi (by rw [hv, hheld]; exact if_pos hlen)
  case full =>
    exact exec_classification_of_none hr hi (.inr (by rw [hv, hheld]; exact if_neg (Nat.not_lt.2 hlen)))

/-- Only writes are taken by an intake window (R108). -/
theorem State.kind_of_classify_intake {s : State} {r : Request} {c : ChanId} (h : s.classify r = .intake c) :
    r.kind = .write := by
  cases hk : r.kind with
  | write => rfl
  | read =>
    simp only [State.classify, hk] at h
    split at h
    · exact absurd h (by simp)
    · split at h <;> exact absurd h (by simp)

theorem State.intakeWrite_usOut (s : State) (c : ChanId) (r : Request) (stamp : Word) :
    (s.intakeWrite c r stamp).usOut = s.usOut := by
  have hframe := s.intakeWrite_frame c r stamp
  dsimp only at hframe
  rw [hframe]

theorem State.intakeWrite_forward (s : State) (c : ChanId) (r : Request) (stamp : Word) :
    (s.intakeWrite c r stamp).forward = s.forward := by
  have hframe := s.intakeWrite_frame c r stamp
  dsimp only at hframe
  rw [hframe]

/-- Settles O30: the three outcomes of an intake write by PASSRAW and the room. -/
theorem intakeWriteStagedThenPassed : Obligations.IntakeWriteStagedThenPassed := by
  unfold Obligations.IntakeWriteStagedThenPassed
  intro h rest c s hr hi hv room taken
  have hroom : s.forwardRoom = true ↔ room := s.forwardRoom_iff
  have husOut : taken.usOut = s.usOut := State.intakeWrite_usOut _ c h.req h.stamp
  have hforward : taken.forward = s.forward := State.intakeWrite_forward _ c h.req h.stamp
  have habsorbed : h.req.absorbed = ⟨h.req.init, h.req.tag, .ok, []⟩ := by
    simp only [Request.absorbed, State.kind_of_classify_intake hv, zeroData]
  have hcomplete : State.complete { s with intake := rest } h (s.classify h.req) =
      if (s.chan c).cfg.passraw then (if s.forwardRoom then some (taken.joinForward h.req) else none)
      else some (taken.respond h.req.absorbed) := by
    rw [hv]; rfl
  refine ⟨fun hpass hmove => ?absorbed, fun hpass hrm => ?passed, fun hpass hrm => ?waits⟩
  case absorbed =>
    refine exec_classification_of_some hr (State.moveDue_eq_false hmove) hi ?_
    rw [hcomplete, hpass, State.respond, husOut, habsorbed]
    rfl
  case passed =>
    have hf := hroom.2 hrm
    refine exec_classification_of_some hr (State.moveDue_of_forwardRoom hf) hi ?_
    rw [hcomplete, hpass, hf, State.joinForward, hforward]
    rfl
  case waits =>
    refine exec_classification_of_none hr hi (.inr ?_)
    rw [hcomplete, hpass, if_pos rfl, if_neg fun hf => hrm (hroom.1 hf)]

end Sys2Proof.Machine
end

section
/-! PROOFS. Descriptors and the channel commands (2.1, 1.3, 9.3): validity, the checks of ENABLE_CHANNEL and its outcomes, the
snapshot. -/

namespace Sys2Proof.Machine

/-! ## The field of a role -/

/-- A descriptor's field of a role is its lowest slot of that role. -/
theorem Descriptor.field_eq_some_iff (d : Descriptor) (role : Role) (f : FieldSlot) : d.field role = some f ↔
    ∃ k : Fin 4, d.fields[k] = some f ∧ f.role = role
      ∧ ∀ (j : Fin 4) (g : FieldSlot), j < k → d.fields[j] = some g → g.role ≠ role := by
  unfold Descriptor.field
  rw [← Fin.find?_eq_find?_finRange]
  constructor
  · intro h
    split at h
    · next k hk =>
      rw [Fin.find?_eq_some_iff] at hk
      obtain ⟨hrole, hfirst⟩ := hk
      rw [h] at hrole
      refine ⟨k, h, by simpa using hrole, fun j g hj hg => ?_⟩
      have hother := hfirst j hj
      rw [hg] at hother
      simpa using hother
    · exact absurd h (by simp)
  · rintro ⟨k, hk, hrole, hfirst⟩
    split
    · next j hj =>
      rw [Fin.find?_eq_some_iff] at hj
      obtain ⟨hj, hbefore⟩ := hj
      rcases lt_trichotomy j k with hlt | rfl | hgt
      · cases hg : d.fields[j] with
        | none => rw [hg] at hj; simp at hj
        | some g => rw [hg] at hj; exact absurd (by simpa using hj) (hfirst j g hlt hg)
      · exact hk
      · have hother := hbefore k hgt
        rw [hk] at hother
        simp [hrole] at hother
    · next hnone =>
      rw [Fin.find?_eq_none_iff] at hnone
      have hother := hnone k
      rw [hk] at hother
      simp [hrole] at hother

theorem Descriptor.field_eq_none_iff (d : Descriptor) (role : Role) : d.field role = none ↔
    ∀ (k : Fin 4) (f : FieldSlot), d.fields[k] = some f → f.role ≠ role := by
  unfold Descriptor.field
  rw [← Fin.find?_eq_find?_finRange]
  constructor
  · intro h k f hk
    split at h
    · next j hj =>
      rw [Fin.find?_eq_some_iff] at hj
      simp [h] at hj
    · next hnone =>
      rw [Fin.find?_eq_none_iff] at hnone
      have hother := hnone k
      rw [hk] at hother
      simpa using hother
  · intro h
    split
    · next k hk =>
      rw [Fin.find?_eq_some_iff] at hk
      obtain ⟨hk, -⟩ := hk
      cases hf : d.fields[k] with
      | none => rfl
      | some f => rw [hf] at hk; exact absurd (by simpa using hk) (h k f hf)
    · rfl

/-- A descriptor's field of a role is one of its slots, of that role. -/
theorem Descriptor.exists_slot_of_field {d : Descriptor} {role : Role} {f : FieldSlot} (h : d.field role = some f) :
    f.role = role ∧ ∃ k : Fin 4, d.fields[k] = some f := by
  obtain ⟨k, hk, hrole, -⟩ := (d.field_eq_some_iff role f).1 h
  exact ⟨hrole, k, hk⟩

/-! ## Validity (R25) -/

/-- The greatest width of a role, one role at a time (R25, condition 2). -/
theorem Role.le_maxWidth_iff (r : Role) (w : Nat) : w ≤ r.maxWidth ↔
    (r = .position → w ≤ 32) ∧ (r = .turns → w ≤ 16) ∧ (r = .status → w ≤ 16) ∧ (r = .tag → w ≤ 8)
      ∧ (r = .fault → w ≤ 32) ∧ (r = .auxdata → w ≤ 32) := by
  cases r <;> simp [Role.maxWidth]

/-- The encodings a role allows: SIGNED is for TURNS, GRAY for POSITION and TURNS (R25, condition 3). -/
theorem Role.allows_iff (r : Role) (e : Encoding) : r.allows e = true ↔
    (e = .signed → r = .turns) ∧ (e = .gray → r = .position ∨ r = .turns) := by
  cases e <;> cases r <;> simp [Role.allows]

theorem FieldSlot.fits_iff (n : Nat) (f : FieldSlot) : f.fits n = true ↔
    32 * f.word + f.start + f.width ≤ 32 * n ∧ 1 ≤ f.width ∧ f.width ≤ f.role.maxWidth
      ∧ f.role.allows f.encoding = true := by
  simp [FieldSlot.fits, and_assoc]

/-- No two present slots of the descriptor have the same role (R25, condition 4). -/
theorem Descriptor.rolesDistinct_iff (d : Descriptor) : d.rolesDistinct = true ↔
    ∀ (i j : Fin 4) (f g : FieldSlot), d.fields[i] = some f → d.fields[j] = some g → i = j ∨ f.role ≠ g.role := by
  simp only [Descriptor.rolesDistinct, List.all_eq_true, List.mem_finRange, true_imp_iff]
  refine forall₂_congr fun i j => ?_
  cases d.fields[i] <;> cases d.fields[j] <;> simp

theorem Descriptor.valid_iff (d : Descriptor) : d.valid = true ↔
    (∀ (k : Fin 4) (f : FieldSlot), d.fields[k] = some f → f.fits d.frameWords = true)
      ∧ ∀ (i j : Fin 4) (f g : FieldSlot), d.fields[i] = some f → d.fields[j] = some g → i = j ∨ f.role ≠ g.role := by
  rw [Descriptor.valid, Bool.and_eq_true, d.rolesDistinct_iff]
  refine and_congr_left fun _ => ?_
  simp only [List.all_eq_true, List.mem_finRange, true_imp_iff]
  refine forall_congr' fun k => ?_
  cases d.fields[k] <;> simp

/-- The field of a role, in a valid descriptor, is no wider than the role's greatest width. -/
theorem Descriptor.fieldWidth_le {d : Descriptor} (hd : d.valid = true) (role : Role) : d.fieldWidth role ≤ role.maxWidth := by
  unfold Descriptor.fieldWidth
  cases hf : d.field role with
  | none => exact Nat.zero_le _
  | some f =>
    obtain ⟨hrole, k, hk⟩ := d.exists_slot_of_field hf
    obtain ⟨-, -, hwidth, -⟩ := (f.fits_iff _).1 ((d.valid_iff.1 hd).1 k f hk)
    exact hrole ▸ hwidth

theorem Descriptor.positionWidth_le {d : Descriptor} (hd : d.valid = true) : d.positionWidth ≤ 48 :=
  Nat.add_le_add (d.fieldWidth_le hd .position) (d.fieldWidth_le hd .turns)

/-- Settles O14: the four conditions by the lemmas on a slot and on two, and 32 + 16 for the position width. -/
theorem descriptorValidityConditions : Obligations.DescriptorValidityConditions := by
  unfold Obligations.DescriptorValidityConditions
  refine ⟨fun d => d.valid_iff.trans ⟨fun h k f hk => ?mp, fun h => ⟨fun k f hk => ?fits, fun i j f g hi hj => ?distinct⟩⟩,
    fun d => d.positionWidth_le⟩
  case mp =>
    obtain ⟨hfits, hdistinct⟩ := h
    obtain ⟨hin, hpos, hwidth, hallows⟩ := (f.fits_iff _).1 (hfits k f hk)
    obtain ⟨w1, w2, w3, w4, w5, w6⟩ := (f.role.le_maxWidth_iff _).1 hwidth
    obtain ⟨hsigned, hgray⟩ := (f.role.allows_iff _).1 hallows
    exact ⟨hin, hpos, w1, w2, w3, w4, w5, w6, hsigned, hgray,
      fun j g hj hg => (hdistinct j k g f hg hk).resolve_left hj⟩
  case fits =>
    obtain ⟨hin, hpos, w1, w2, w3, w4, w5, w6, hsigned, hgray, -⟩ := h k f hk
    exact (f.fits_iff _).2 ⟨hin, hpos, (f.role.le_maxWidth_iff _).2 ⟨w1, w2, w3, w4, w5, w6⟩,
      (f.role.allows_iff _).2 ⟨hsigned, hgray⟩⟩
  case distinct =>
    obtain ⟨-, -, -, -, -, -, -, -, -, -, hother⟩ := h j g hj
    exact or_iff_not_imp_left.2 fun hij => hother i f hij hi

/-! ## The checks of ENABLE_CHANNEL (R6) -/

theorem Schedule.mem_activeSteps (sch : Schedule) (st : SchedStep) :
    st ∈ sch.activeSteps ↔ ∃ k : Fin 4, k.val < sch.len ∧ sch.steps[k] = st := by
  simp [Schedule.activeSteps, Schedule.active]

/-- What holds of the descriptors of the active steps, step by step. -/
theorem Schedule.forall_activeDescs (sch : Schedule) (descs : Vector Descriptor 16) (P : Descriptor → Prop) :
    (∀ d ∈ sch.activeSteps.map fun st => descs[st.desc], P d) ↔ ∀ k : Fin 4, k.val < sch.len → P descs[(sch.steps[k]).desc] := by
  simp only [List.forall_mem_map, sch.mem_activeSteps]
  exact ⟨fun h k hk => h _ ⟨k, hk, rfl⟩, fun h _ ⟨k, hk, he⟩ => he ▸ h k hk⟩

theorem Schedule.mem_positionDescs (sch : Schedule) (descs : Vector Descriptor 16) (d : Descriptor) :
    d ∈ sch.positionDescs descs ↔
      ∃ k : Fin 4, k.val < sch.len ∧ (sch.steps[k]).kind = .position ∧ descs[(sch.steps[k]).desc] = d := by
  simp only [Schedule.positionDescs, List.mem_map, List.mem_filter, sch.mem_activeSteps, beq_iff_eq]
  constructor
  · rintro ⟨st, ⟨⟨k, hk, rfl⟩, hkind⟩, hd⟩
    exact ⟨k, hk, hkind, hd⟩
  · rintro ⟨k, hk, hkind, hd⟩
    exact ⟨_, ⟨⟨k, hk, rfl⟩, hkind⟩, hd⟩

/-- What holds of the descriptors of the active POSITION steps, step by step. -/
theorem Schedule.forall_positionDescs (sch : Schedule) (descs : Vector Descriptor 16) (P : Descriptor → Prop) :
    (∀ d ∈ sch.positionDescs descs, P d) ↔
      ∀ k : Fin 4, k.val < sch.len → (sch.steps[k]).kind = .position → P descs[(sch.steps[k]).desc] := by
  simp only [sch.mem_positionDescs]
  exact ⟨fun h k hk hkind => h _ ⟨k, hk, hkind, rfl⟩, fun h _ ⟨k, hk, hkind, he⟩ => he ▸ h k hk hkind⟩

theorem Schedule.positionDescs_ne_nil_iff (sch : Schedule) (descs : Vector Descriptor 16) :
    sch.positionDescs descs ≠ [] ↔ ∃ k : Fin 4, k.val < sch.len ∧ (sch.steps[k]).kind = .position := by
  constructor
  · intro h
    obtain ⟨d, hd⟩ := List.exists_mem_of_ne_nil _ h
    obtain ⟨k, hk, hkind, -⟩ := (sch.mem_positionDescs descs d).1 hd
    exact ⟨k, hk, hkind⟩
  · rintro ⟨k, hk, hkind⟩
    exact List.ne_nil_of_mem ((sch.mem_positionDescs descs _).2 ⟨k, hk, hkind, rfl⟩)

/-- All of a list agree with its head on a value exactly when all have the head's value. -/
theorem forall_eq_head_iff {α : Type} (g : α → Nat) (a : α) (l : List α) (n : Nat) :
    ((∀ x ∈ a :: l, g x = g a) ∧ g a = n) ↔ ∀ x ∈ a :: l, g x = n :=
  ⟨fun ⟨h, hn⟩ x hx => (h x hx).trans hn,
    fun h => ⟨fun x hx => (h x hx).trans (h a List.mem_cons_self).symm, h a List.mem_cons_self⟩⟩

/-- Checks 1 to 5 by the descriptors of the active steps and of the active POSITION steps. -/
theorem scheduleShape_eq_some_iff_lists (sch : Schedule) (descs : Vector Descriptor 16) (n w : Nat) :
    scheduleShape sch descs = some (n, w) ↔
      (∀ d ∈ sch.activeSteps.map fun st => descs[st.desc], d.valid = true)
        ∧ (∀ d ∈ sch.activeSteps.map fun st => descs[st.desc], d.frameWords = n)
        ∧ sch.positionDescs descs ≠ []
        ∧ (∀ d ∈ sch.positionDescs descs, (d.field .position).isSome = true)
        ∧ ∀ d ∈ sch.positionDescs descs, d.positionWidth = w := by
  have hactive : sch.positionDescs descs ≠ [] → (sch.activeSteps.map fun st => descs[st.desc]) ≠ [] := by
    rw [sch.positionDescs_ne_nil_iff descs]
    rintro ⟨k, hk, -⟩ hnil
    have hmem := (sch.mem_activeSteps _).2 ⟨k, hk, rfl⟩
    rw [List.map_eq_nil_iff.1 hnil] at hmem
    exact absurd hmem List.not_mem_nil
  unfold scheduleShape
  dsimp only
  revert hactive
  generalize (sch.activeSteps.map fun st => descs[st.desc]) = ds
  generalize sch.positionDescs descs = ps
  intro hactive
  cases ps with
  | nil => simp
  | cons p ps =>
    cases ds with
    | nil => simp at hactive
    | cons d ds =>
      rw [← forall_eq_head_iff Descriptor.frameWords, ← forall_eq_head_iff Descriptor.positionWidth]
      simp only [Bool.and_eq_true, List.all_eq_true, beq_iff_eq, Option.ite_none_right_eq_some, Option.some.injEq,
        Prod.mk.injEq, ne_eq, reduceCtorEq, not_false_eq_true, true_and]
      tauto

theorem scheduleShape_eq_some_iff (sch : Schedule) (descs : Vector Descriptor 16) (n w : Nat) :
    scheduleShape sch descs = some (n, w) ↔
      (∀ k : Fin 4, k.val < sch.len → (descs[(sch.steps[k]).desc]).valid = true)
        ∧ (∀ k : Fin 4, k.val < sch.len → (descs[(sch.steps[k]).desc]).frameWords = n)
        ∧ (∃ k : Fin 4, k.val < sch.len ∧ (sch.steps[k]).kind = .position)
        ∧ (∀ k : Fin 4, k.val < sch.len → (sch.steps[k]).kind = .position →
            ((descs[(sch.steps[k]).desc]).field .position).isSome = true)
        ∧ ∀ k : Fin 4, k.val < sch.len → (sch.steps[k]).kind = .position →
            (descs[(sch.steps[k]).desc]).positionWidth = w := by
  rw [scheduleShape_eq_some_iff_lists, sch.positionDescs_ne_nil_iff descs,
    sch.forall_activeDescs descs fun d => d.valid = true, sch.forall_activeDescs descs fun d => d.frameWords = n,
    sch.forall_positionDescs descs fun d => (d.field .position).isSome = true,
    sch.forall_positionDescs descs fun d => d.positionWidth = w]

/-- Checks 7 and 8 fail: the channel's windows meet, or one of them meets one of a channel not in DISABLED. -/
theorem State.windowOverlap_iff (s : State) (c : ChanId) : s.windowOverlap c = true ↔
    rangesOverlap (s.chan c).cfg.intakeStart 16 (s.chan c).cfg.outputStart (s.chan c).cfg.outputSize = true
      ∨ ∃ d, d ≠ c ∧ (s.chan d).rt.state ≠ .disabled ∧ windowsClash (s.chan c).cfg (s.chan d).cfg = true := by
  simp [State.windowOverlap, and_assoc]

/-- Settles O15: checks 1 to 5 step by step, checks 7 and 8 by the addresses two windows share. -/
theorem enableChecksAsListed : Obligations.EnableChecksAsListed := by
  unfold Obligations.EnableChecksAsListed
  refine ⟨scheduleShape_eq_some_iff, fun s c => ?_⟩
  intro intake output
  rw [s.windowOverlap_iff]
  refine or_congr (rangesOverlap_iff _ _ _ _ |>.trans ?_) (exists_congr fun d => ?_)
  · exact exists_congr fun a => and_assoc.symm
  · have hclash : windowsClash (s.chan c).cfg (s.chan d).cfg = true ↔
        ∃ a, (intake (s.chan c).cfg a ∨ output (s.chan c).cfg a) ∧ (intake (s.chan d).cfg a ∨ output (s.chan d).cfg a) := by
      simp only [windowsClash_iff, rangesOverlap_iff, ← exists_or]
      refine exists_congr fun a => ?_
      simp only [intake, output, ChanConfig.intakeStart, ChanConfig.outputStart, ChanConfig.outputSize]
      tauto
    rw [hclash]
    simp only [exists_and_left]

/-! ## ENABLE_CHANNEL (R6 to R8) -/

theorem ruleEnable_locked {s : State} {c : ChanId} (h : (s.chan c).rt.state ≠ .disabled) :
    ruleEnable c s = ⟨s, .locked, []⟩ := if_pos h

theorem ruleEnable_invalid {s : State} {c : ChanId} (h : (s.chan c).rt.state = .disabled)
    (hshape : scheduleShape (s.chan c).cfg.schedule s.descs = none) : ruleEnable c s = ⟨s, .invalidConfig, []⟩ := by
  simp only [ruleEnable, h, hshape, ne_eq, not_true_eq_false, if_false]

/-- The rule of a DISABLED channel whose schedule passes checks 1 to 5: check 6, checks 7 and 8, and the fresh channel. -/
theorem ruleEnable_of_shape {s : State} {c : ChanId} {n w : Nat} (h : (s.chan c).rt.state = .disabled)
    (hshape : scheduleShape (s.chan c).cfg.schedule s.descs = some (n, w)) : ruleEnable c s =
      if (s.chan c).cfg.outputStart % (s.chan c).cfg.outputSize ≠ 0 then ⟨s, .invalidConfig, []⟩
      else if s.windowOverlap c then ⟨s, .overlap, []⟩
      else ⟨s.setChan c { s.chan c with
        rt := Runtime.enabled (s.chan c).cfg s.tick n w, ctr := .zero }, .ok, []⟩ := by
  simp only [ruleEnable, h, hshape, ne_eq, not_true_eq_false, if_false]

/-- Settles O16: the rule's answers in their order. -/
theorem enableOutcomes : Obligations.EnableOutcomes := by
  unfold Obligations.EnableOutcomes
  intro c s hr hlast cfg
  have hexec {t : State} {st : Status} (h : ruleEnable c s = ⟨t, st, []⟩) :
      exec (.enableChannel (BitVec.ofNat 8 c.val)) s = .next (t.answer .enable st []) :=
    exec_eq_answer rfl (State.row_taken _ hlast hr) ((withChannel_ofNat c ruleEnable s).trans h)
  refine ⟨fun hstate => hexec (ruleEnable_locked hstate), fun hstate hshape => hexec (ruleEnable_invalid hstate hshape),
    fun n w hstate hshape => ?_⟩
  have hrule := ruleEnable_of_shape hstate hshape
  refine ⟨fun halign => hexec (hrule.trans (if_pos halign)), fun halign => ?_⟩
  have hrule := hrule.trans (if_neg (not_not.2 halign))
  refine ⟨fun hover => hexec (hrule.trans (if_pos hover)), fun hover => ?_⟩
  exact hexec (hrule.trans (if_neg (by simp [hover])))

/-! ## The snapshot (R161, R175) -/

/-- Values of given sizes, one after the other, least significant byte first. -/
def layout (parts : List (Nat × Nat)) : List Byte := parts.flatMap fun p => leBytes p.1 p.2

theorem length_leBytes (n x : Nat) : (leBytes n x).length = n := by simp [leBytes]

theorem length_layout (parts : List (Nat × Nat)) : (layout parts).length = (parts.map Prod.fst).sum := by
  simp [layout, List.length_flatMap, length_leBytes]

/-- The value of a part is read back at the end of the parts before it. -/
theorem leNat_layout {parts : List (Nat × Nat)} {i n x offset : Nat} (hi : parts[i]? = some (n, x))
    (ho : ((parts.take i).map Prod.fst).sum = offset) :
    leNat (((layout parts).drop offset).take n) = x % 256 ^ n := by
  obtain ⟨hlt, hget⟩ := List.getElem?_eq_some_iff.1 hi
  have hsplit : layout parts = layout (parts.take i) ++ (leBytes n x ++ layout (parts.drop (i + 1))) := by
    conv_lhs => rw [← List.take_append_drop i parts, List.drop_eq_getElem_cons hlt, hget]
    simp [layout]
  rw [hsplit, ← ho, ← length_layout, List.drop_left, List.take_left' (length_leBytes n x), leNat_leBytes]

/-- The fields of a snapshot with their sizes, in order (R175). -/
def snapshotParts (rt : Runtime) : List (Nat × Nat) :=
  [(1, rt.state.code.toNat), (1, rt.cond.code.toNat), (1, rt.stepPtr.val), (1, rt.miss), (1, (marksByte rt.marks).toNat),
    (1, rt.history.length), (1, (presenceByte rt).toNat), (1, rt.viol), (4, rt.base), (4, (rt.deadline.getD 0).toNat),
    (4, (rt.lastArrival.getD 0).toNat), (6, rt.ep.toNat), (6, rt.op.toNat), (6, rt.vel.toNat), (2, rt.nextSeq.toNat),
    (4, rt.staging[0].toNat), (4, rt.staging[1].toNat), (4, rt.staging[2].toNat), (4, rt.staging[3].toNat)]

theorem leBytes_one (x : Nat) : leBytes 1 x = [BitVec.ofNat 8 x] := by simp [leBytes]

theorem snapshot_eq_layout (rt : Runtime) : snapshot rt = layout (snapshotParts rt) := by
  simp [snapshot, layout, snapshotParts, leBytes_one]

theorem marksByte_getLsbD (m : Vector Bool 4) (k : Fin 4) : (marksByte m).getLsbD k.val = m[k] := by
  have hbits : ∀ a b c d : Bool,
      (0#4 ++ BitVec.ofBool d ++ BitVec.ofBool c ++ BitVec.ofBool b ++ BitVec.ofBool a).getLsbD 0 = a
        ∧ (0#4 ++ BitVec.ofBool d ++ BitVec.ofBool c ++ BitVec.ofBool b ++ BitVec.ofBool a).getLsbD 1 = b
        ∧ (0#4 ++ BitVec.ofBool d ++ BitVec.ofBool c ++ BitVec.ofBool b ++ BitVec.ofBool a).getLsbD 2 = c
        ∧ (0#4 ++ BitVec.ofBool d ++ BitVec.ofBool c ++ BitVec.ofBool b ++ BitVec.ofBool a).getLsbD 3 = d := by decide
  obtain ⟨h0, h1, h2, h3⟩ := hbits m[0] m[1] m[2] m[3]
  match k with
  | 0 => exact h0
  | 1 => exact h1
  | 2 => exact h2
  | 3 => exact h3

theorem marksByte_lt (m : Vector Bool 4) : (marksByte m).toNat < 16 := by
  have hlt : ∀ a b c d : Bool,
      (0#4 ++ BitVec.ofBool d ++ BitVec.ofBool c ++ BitVec.ofBool b ++ BitVec.ofBool a).toNat < 16 := by decide
  exact hlt _ _ _ _

theorem presenceByte_toNat (rt : Runtime) : (presenceByte rt).toNat =
    (if rt.deadline.isSome then 1 else 0) + (if rt.lastArrival.isSome then 2 else 0) := by
  have hbits : ∀ a b : Bool, (0#6 ++ BitVec.ofBool a ++ BitVec.ofBool b).toNat =
      (if b then 1 else 0) + (if a then 2 else 0) := by decide
  exact hbits _ _

/-- The sizes of the fields of a snapshot, in order (R175). -/
def snapshotSizes : List Nat := [1, 1, 1, 1, 1, 1, 1, 1, 4, 4, 4, 6, 6, 6, 2, 4, 4, 4, 4]

theorem snapshotParts_sizes (rt : Runtime) : (snapshotParts rt).map Prod.fst = snapshotSizes := rfl

/-- Settles O18: the rule changes nothing, and each field is read back from the layout. -/
theorem snapshotBytes : Obligations.SnapshotBytes := by
  unfold Obligations.SnapshotBytes
  refine ⟨?answer, fun rt => ?_⟩
  case answer =>
    intro c s hr hlast
    exact exec_eq_answer rfl (State.row_taken _ hlast hr) (withChannel_ofNat c ruleGetState s)
  intro at_
  have hat (i offset n x : Nat) (hi : (snapshotParts rt)[i]? = some (n, x))
      (ho : (snapshotSizes.take i).sum = offset) (hx : x < 256 ^ n) : at_ offset n = x := by
    simp only [at_, snapshot_eq_layout]
    rw [leNat_layout hi (by rw [← ho, ← snapshotParts_sizes rt, List.map_take]), Nat.mod_eq_of_lt hx]
  have hmarks : at_ 4 1 = (marksByte rt.marks).toNat := hat 4 4 1 (marksByte rt.marks).toNat rfl (by decide) (marksByte rt.marks).isLt
  clear_value at_
  refine ⟨?length, ?state, ?cond, ?stepPtr, hat 3 3 1 rt.miss rfl (by decide), ?marks, ?marksHigh,
    hat 5 5 1 rt.history.length rfl (by decide), ?presence, hat 7 7 1 rt.viol rfl (by decide), hat 8 8 4 rt.base rfl (by decide),
    hat 9 12 4 (rt.deadline.getD 0).toNat rfl (by decide) (BitVec.isLt _),
    hat 10 16 4 (rt.lastArrival.getD 0).toNat rfl (by decide) (BitVec.isLt _), hat 11 20 6 rt.ep.toNat rfl (by decide) rt.ep.isLt,
    hat 12 26 6 rt.op.toNat rfl (by decide) rt.op.isLt, hat 13 32 6 rt.vel.toNat rfl (by decide) rt.vel.isLt,
    hat 14 38 2 rt.nextSeq.toNat rfl (by decide) rt.nextSeq.isLt, ?staging⟩
  case length => rw [snapshot_eq_layout, length_layout, snapshotParts_sizes]; decide
  case state =>
    rw [hat 0 0 1 rt.state.code.toNat rfl (by decide) rt.state.code.isLt]
    cases rt.state <;> rfl
  case cond =>
    rw [hat 1 1 1 rt.cond.code.toNat rfl (by decide) rt.cond.code.isLt]
    cases rt.cond <;> rfl
  case stepPtr => exact hat 2 2 1 rt.stepPtr.val rfl (by decide) (rt.stepPtr.isLt.trans (by decide))
  case marks =>
    rw [hmarks]
    exact marksByte_getLsbD rt.marks
  case marksHigh =>
    rw [hmarks]
    exact marksByte_lt rt.marks
  case presence =>
    rw [hat 6 6 1 (presenceByte rt).toNat rfl (by decide) (presenceByte rt).isLt, presenceByte_toNat]
  case staging =>
    intro k
    match k with
    | 0 => exact hat 15 40 4 rt.staging[0].toNat rfl (by decide) (BitVec.isLt _)
    | 1 => exact hat 16 44 4 rt.staging[1].toNat rfl (by decide) (BitVec.isLt _)
    | 2 => exact hat 17 48 4 rt.staging[2].toNat rfl (by decide) (BitVec.isLt _)
    | 3 => exact hat 18 52 4 rt.staging[3].toNat rfl (by decide) (BitVec.isLt _)

end Sys2Proof.Machine
end

section
/-! PROOFS. The Frame Unit (02_frame_descriptors_and_the_decode_schedule.md): staging, and the commits that hand on no sample. -/

namespace Sys2Proof.Machine

/-! ## Staging (R28 to R30) -/

theorem laneWord_getLsbD (data : BitVec 128) (i : Nat) {j : Nat} (hj : j < 32) :
    (laneWord data i).getLsbD j = data.getLsbD (32 * i + j) := by
  simp [laneWord, hj]

theorem laneEnables_getLsbD (be : Half) (i : Nat) (b : Fin 4) : (laneEnables be i).getLsbD b.val = be.getLsbD (4 * i + b.val) := by
  simp [laneEnables]

theorem byteMask_getLsbD : ∀ (en : BitVec 4) (b : Fin 4) (k : Fin 8),
    (byteMask en).getLsbD (8 * b.val + k.val) = en.getLsbD b.val := by decide

/-- Every bit of a merged word is that of the byte's old or new value, by the byte's enable (R28). -/
theorem mergeWord_getLsbD (old new : Word) (en : BitVec 4) (b : Fin 4) (k : Fin 8) :
    (mergeWord old new en).getLsbD (8 * b.val + k.val) =
      if en.getLsbD b.val then new.getLsbD (8 * b.val + k.val) else old.getLsbD (8 * b.val + k.val) := by
  have hlt : 8 * b.val + k.val < 32 := by omega
  simp only [mergeWord, BitVec.getLsbD_or, BitVec.getLsbD_and, BitVec.getLsbD_not, byteMask_getLsbD, hlt, decide_true,
    Bool.true_and]
  cases en.getLsbD b.val <;> simp

/-- All four enables are set. -/
theorem enables_eq_allOnes_iff : ∀ en : BitVec 4, (en == 15) = true ↔ ∀ b : Fin 4, en.getLsbD b.val = true := by decide

section
variable (cfg : ChanConfig) (rt : Runtime) (r : Request)

theorem coversWord_iff (j : Nat) :
    coversWord cfg r j = true ↔ firstIndex cfg r ≤ j ∧ j < firstIndex cfg r + r.len.toNat := by
  simp [coversWord]

/-- A staging word after a write. -/
theorem stageWrite_staging (j : Fin 4) : (stageWrite cfg rt r).staging[j] =
    if j.val < rt.frameLen ∧ coversWord cfg r j.val = true then
      mergeWord rt.staging[j] (laneWord r.data (j.val - firstIndex cfg r)) (enablesAt cfg r j.val)
    else rt.staging[j] := by
  simp [stageWrite]

/-- A staging word's mark after a write. -/
theorem stageWrite_marks (j : Fin 4) : (stageWrite cfg rt r).marks[j] =
    if j.val < rt.frameLen ∧ coversWord cfg r j.val = true then enablesAt cfg r j.val == 15 else rt.marks[j] := by
  simp [stageWrite]

theorem enablesAt_eq_allOnes_iff (j : Nat) : (enablesAt cfg r j == 15) = true ↔
    ∀ b : Fin 4, r.be.getLsbD (4 * (j - firstIndex cfg r) + b.val) = true := by
  simp only [enables_eq_allOnes_iff, enablesAt, laneEnables_getLsbD]

end

/-- Settles O31: the words and marks of a staged write, the commit condition, and the write that does not commit. -/
theorem stagingMergesEnabledBytes : Obligations.StagingMergesEnabledBytes := by
  unfold Obligations.StagingMergesEnabledBytes
  refine ⟨?words, ?commits, fun c r stamp s h => ?staged⟩
  case words =>
    intro cfg rt r j first covered rt'
    have hcovered : covered ↔ j.val < rt.frameLen ∧ coversWord cfg r j.val = true :=
      and_congr_right fun _ => (coversWord_iff cfg r j.val).symm
    refine ⟨fun hc b k => ?_, fun hc => ?_, fun hc => ⟨?_, ?_⟩, rfl⟩
    · have hlt : 8 * b.val + k.val < 32 := by omega
      rw [stageWrite_staging, if_pos (hcovered.1 hc), mergeWord_getLsbD, enablesAt, laneEnables_getLsbD,
        laneWord_getLsbD _ _ hlt, ← Nat.add_assoc]
      rfl
    · rw [stageWrite_marks, if_pos (hcovered.1 hc)]
      exact enablesAt_eq_allOnes_iff cfg r j.val
    · rw [stageWrite_staging, if_neg (mt hcovered.2 hc)]
    · rw [stageWrite_marks, if_neg (mt hcovered.2 hc)]
  case commits =>
    intro cfg rt r first
    rw [commits, Bool.and_eq_true, coversWord_iff, enablesAt_eq_allOnes_iff, and_assoc]
    rfl
  case staged =>
    simp only [State.intakeWrite, h, Bool.false_eq_true, if_false]
    rfl

/-! ## The aux values (R39) -/

theorem decodeField_lt (words : Vector Word 4) (f : FieldSlot) : decodeField words f < 2 ^ f.width :=
  Nat.lt_pow_two_of_testBit _ fun _ hi => testBit_decodeField_of_width_le words hi

/-- A field no wider than its place is handed on whole, zero-extended. -/
theorem toNat_ofNat_decodeField (words : Vector Word 4) {f : FieldSlot} {n : Nat} (h : f.width ≤ n) :
    (BitVec.ofNat n (decodeField words f)).toNat = decodeField words f := by
  rw [BitVec.toNat_ofNat, Nat.mod_eq_of_lt]
  exact (decodeField_lt words f).trans_le (Nat.pow_le_pow_right (by decide) h)

section
variable (rt : Runtime) (d : Descriptor) (words : Vector Word 4)

/-- The aux values are the aux fields' alone (R39). -/
theorem Runtime.takeAux_frame : rt.takeAux d words = { rt with
    auxStatus := (rt.takeAux d words).auxStatus, statusValid := (rt.takeAux d words).statusValid
    auxWord := (rt.takeAux d words).auxWord, auxValid := (rt.takeAux d words).auxValid } := by
  unfold Runtime.takeAux
  cases d.field .status <;> cases d.field .auxdata <;> rfl

theorem Runtime.takeAux_status {f : FieldSlot} (h : d.field .status = some f) :
    (rt.takeAux d words).statusValid = true ∧ (rt.takeAux d words).auxStatus = BitVec.ofNat 16 (decodeField words f) := by
  simp only [Runtime.takeAux, h]
  cases d.field .auxdata <;> exact ⟨rfl, rfl⟩

theorem Runtime.takeAux_no_status (h : d.field .status = none) :
    (rt.takeAux d words).auxStatus = rt.auxStatus ∧ (rt.takeAux d words).statusValid = rt.statusValid := by
  simp only [Runtime.takeAux, h]
  cases d.field .auxdata <;> exact ⟨rfl, rfl⟩

theorem Runtime.takeAux_auxdata {f : FieldSlot} (h : d.field .auxdata = some f) :
    (rt.takeAux d words).auxValid = true ∧ (rt.takeAux d words).auxWord = BitVec.ofNat 32 (decodeField words f) := by
  simp only [Runtime.takeAux, h, and_self]

theorem Runtime.takeAux_no_auxdata (h : d.field .auxdata = none) :
    (rt.takeAux d words).auxWord = rt.auxWord ∧ (rt.takeAux d words).auxValid = rt.auxValid := by
  simp only [Runtime.takeAux, h]
  cases d.field .status <;> exact ⟨rfl, rfl⟩

end

/-! ## The checks of a committed frame (2.4) -/

theorem complete_iff (rt : Runtime) : complete rt = true ↔ ∀ j : Fin 4, j.val + 1 < rt.frameLen → rt.marks[j] = true := by
  simp [complete, or_iff_not_imp_left]

/-- The guard: a POSITION frame of a RUNNING channel, too soon after the last arrival (R36, R72). -/
theorem isEarly_iff (cfg : ChanConfig) (rt : Runtime) (kind : StepKind) (stamp : Word) : isEarly cfg rt kind stamp = true ↔
    kind = .position ∧ rt.state = .running ∧ 0 < cfg.guardG
      ∧ ∃ last, rt.lastArrival = some last ∧ (stamp - last).toNat < rt.base * cfg.guardG / 16 := by
  unfold isEarly guardValue sixteenths
  cases rt.lastArrival <;> simp [and_assoc]

theorem Descriptor.faulted_iff (d : Descriptor) (words : Vector Word 4) : d.faulted words = true ↔
    ∃ f, d.field .fault = some f ∧ BitVec.ofNat 32 (decodeField words f) &&& d.faultMask ≠ 0 := by
  unfold Descriptor.faulted
  cases d.field .fault <;> simp

/-- The channel's fields as a resync leaves them: RESYNCED is pending (R35). -/
def Runtime.flagResync (rt : Runtime) (re : Bool) : Runtime :=
  { rt with pend := { rt.pend with resynced := rt.pend.resynced || re } }

/-- The event of a resync, before any other of its frame (R35). -/
def resyncEvents (c : ChanId) (re : Bool) : List RawEvent := if re then [⟨.resync, some c, 0⟩] else []

section
variable {c : ChanId} {descs : Vector Descriptor 16} {ch : Channel} {stamp : Word} {k : Fin 4} {before : List RawEvent}

theorem checkFrame_incomplete (h : complete ch.rt = false) : checkFrame c descs ch stamp =
    faultFrame c ch .incomplete (ch.cfg.schedule.steps[ch.rt.stepPtr]).kind (nextStep ch.cfg.schedule ch.rt.stepPtr) [] := by
  simp only [checkFrame, h, if_true]

theorem checkFrame_mismatch (h : complete ch.rt = true)
    (hres : resolveStep ch.cfg descs ch.rt.staging ch.rt.stepPtr = none) : checkFrame c descs ch stamp =
    faultFrame c ch .mismatch (ch.cfg.schedule.steps[ch.rt.stepPtr]).kind ch.rt.stepPtr [] := by
  simp only [checkFrame, h, hres, Bool.true_eq_false, if_false]

theorem checkFrame_resolved {re : Bool} (h : complete ch.rt = true)
    (hres : resolveStep ch.cfg descs ch.rt.staging ch.rt.stepPtr = some (k, re)) : checkFrame c descs ch stamp =
    decodeFrame c descs { ch with rt := ch.rt.flagResync re } stamp k (resyncEvents c re) := by
  simp only [checkFrame, h, hres, Bool.true_eq_false, if_false]
  cases re with
  | true => simp [Runtime.flagResync, resyncEvents]
  | false => simp [Runtime.flagResync, resyncEvents]

theorem decodeFrame_early (h : isEarly ch.cfg ch.rt (ch.cfg.schedule.steps[k]).kind stamp = true) :
    decodeFrame c descs ch stamp k before =
      ⟨{ ch with ctr := ch.ctr.bumpEarly }, before ++ [⟨.earlyFrame, some c, 0⟩], none⟩ := by
  simp only [decodeFrame, h, if_true]

theorem decodeFrame_faulted (h : isEarly ch.cfg ch.rt (ch.cfg.schedule.steps[k]).kind stamp = false)
    (hf : (stepDesc ch.cfg descs k).faulted ch.rt.staging = true) : decodeFrame c descs ch stamp k before =
      faultFrame c ch .faultField (ch.cfg.schedule.steps[k]).kind (nextStep ch.cfg.schedule k) before := by
  simp only [decodeFrame, h, hf, Bool.false_eq_true, if_false, if_true]

theorem decodeFrame_aux (h : isEarly ch.cfg ch.rt (ch.cfg.schedule.steps[k]).kind stamp = false)
    (hf : (stepDesc ch.cfg descs k).faulted ch.rt.staging = false) (hk : (ch.cfg.schedule.steps[k]).kind = .aux) :
    decodeFrame c descs ch stamp k before =
      ⟨{ ch with
          rt := { ch.rt.takeAux (stepDesc ch.cfg descs k) ch.rt.staging with stepPtr := nextStep ch.cfg.schedule k }
          ctr := ch.ctr.bumpAuxFrames }, before, none⟩ := by
  rw [hk] at h
  simp only [decodeFrame, h, hf, hk, Bool.false_eq_true, if_false]

theorem decodeFrame_position (h : isEarly ch.cfg ch.rt (ch.cfg.schedule.steps[k]).kind stamp = false)
    (hf : (stepDesc ch.cfg descs k).faulted ch.rt.staging = false) (hk : (ch.cfg.schedule.steps[k]).kind = .position) :
    decodeFrame c descs ch stamp k before =
      ⟨{ ch with
          rt := { ch.rt.takeAux (stepDesc ch.cfg descs k) ch.rt.staging with stepPtr := nextStep ch.cfg.schedule k }
          ctr := ch.ctr.bumpFrames }, before, some (sampleOf (stepDesc ch.cfg descs k) ch.rt.staging stamp)⟩ := by
  rw [hk] at h
  simp only [decodeFrame, h, hf, hk, Bool.false_eq_true, if_false]

end

/-- The channel's fields after a fault at a step of a kind: FAULT_SEEN and the spoiled interval of a POSITION step (R40). -/
def Runtime.faultAt (rt : Runtime) (kind : StepKind) : Runtime :=
  match kind with
  | .position => { rt with pend := { rt.pend with faultSeen := true }, mark := .spoiled }
  | .aux => rt

theorem faultFrame_eq (c : ChanId) (ch : Channel) (why : FaultReason) (kind : StepKind) (next : Fin 4)
    (before : List RawEvent) : faultFrame c ch why kind next before =
      ⟨{ ch with rt := { ch.rt.faultAt kind with stepPtr := next }, ctr := ch.ctr.bumpFaults },
        before ++ [⟨.frameFault, some c, why.detail⟩], none⟩ := by
  cases kind <;> rfl

/-- The four marks cleared (R42). -/
def Runtime.clearMarks (rt : Runtime) : Runtime := { rt with marks := Vector.replicate 4 false }

theorem Runtime.faultAt_clearMarks (rt : Runtime) (kind : StepKind) (next : Fin 4) :
    Runtime.clearMarks { rt.faultAt kind with stepPtr := next } = { rt.clearMarks.faultAt kind with stepPtr := next } := by
  cases kind <;> rfl

/-- The aux values do not depend on the marks. -/
theorem Runtime.takeAux_clearMarks (rt : Runtime) (d : Descriptor) (words : Vector Word 4) (re : Bool) (next : Fin 4) :
    Runtime.clearMarks { (rt.flagResync re).takeAux d words with stepPtr := next } =
      { (rt.clearMarks.flagResync re).takeAux d words with stepPtr := next } := by
  unfold Runtime.takeAux
  cases d.field .status <;> cases d.field .auxdata <;> rfl

/-- The runtime fields of a channel once a write to it has been staged (R28, R29). -/
abbrev State.staged (s : State) (c : ChanId) (r : Request) : Runtime := stageWrite (s.chan c).cfg (s.chan c).rt r

section
variable {s : State} {c : ChanId} {r : Request} {stamp : Word}

/-- The commit of a write whose checks hand on no sample (R42). -/
theorem State.intakeWrite_of_no_sample {ch : Channel} {es : List RawEvent}
    (h : commits (s.chan c).cfg (s.chan c).rt r = true)
    (hcheck : checkFrame c s.descs { s.chan c with rt := s.staged c r } stamp = ⟨ch, es, none⟩) :
    s.intakeWrite c r stamp = (s.setChan c { ch with rt := ch.rt.clearMarks }).logAll es := by
  simp only [State.intakeWrite, h, if_true, commitFrame, hcheck, State.raise_single]
  rfl

/-- The commit of a write whose checks hand on a sample (R38, R42). -/
theorem State.intakeWrite_of_sample {ch : Channel} {es : List RawEvent} {x : Sample}
    (h : commits (s.chan c).cfg (s.chan c).rt r = true)
    (hcheck : checkFrame c s.descs { s.chan c with rt := s.staged c r } stamp = ⟨ch, es, some x⟩) :
    s.intakeWrite c r stamp = (s.setChan c { ch with rt := ch.rt.clearMarks }).takeSample c x es := by
  simp only [State.intakeWrite, h, if_true, commitFrame, hcheck]
  rfl

/-- A write that does not commit is staged and does nothing else (R30). -/
theorem State.intakeWrite_staged (h : commits (s.chan c).cfg (s.chan c).rt r = false) :
    s.intakeWrite c r stamp = s.setChan c { s.chan c with rt := s.staged c r } := by
  simp only [State.intakeWrite, h, Bool.false_eq_true, if_false]

/-- An incomplete frame is faulted at the current step, and the pointer moves on (R32, R40, R41). -/
theorem State.intakeWrite_incomplete (h : commits (s.chan c).cfg (s.chan c).rt r = true)
    (hm : Machine.complete (s.staged c r) = false) : s.intakeWrite c r stamp =
      (s.setChan c ⟨(s.chan c).cfg,
        { (s.staged c r).clearMarks.faultAt ((s.chan c).cfg.schedule.steps[(s.staged c r).stepPtr]).kind with
          stepPtr := nextStep (s.chan c).cfg.schedule (s.staged c r).stepPtr },
        (s.chan c).ctr.bumpFaults⟩).logAll [⟨.frameFault, some c, 1⟩] := by
  rw [State.intakeWrite_of_no_sample h ((checkFrame_incomplete (ch := { s.chan c with rt := s.staged c r }) hm).trans (faultFrame_eq ..)),
    Runtime.faultAt_clearMarks]
  rfl

/-- A frame no step matches is faulted at the current step, and the pointer stays (R34, R40, R41). -/
theorem State.intakeWrite_mismatch (h : commits (s.chan c).cfg (s.chan c).rt r = true)
    (hm : Machine.complete (s.staged c r) = true)
    (hres : resolveStep (s.chan c).cfg s.descs (s.staged c r).staging (s.staged c r).stepPtr = none) :
    s.intakeWrite c r stamp =
      (s.setChan c ⟨(s.chan c).cfg,
        (s.staged c r).clearMarks.faultAt ((s.chan c).cfg.schedule.steps[(s.staged c r).stepPtr]).kind,
        (s.chan c).ctr.bumpFaults⟩).logAll [⟨.frameFault, some c, 2⟩] := by
  rw [State.intakeWrite_of_no_sample h ((checkFrame_mismatch (ch := { s.chan c with rt := s.staged c r }) hm hres).trans (faultFrame_eq ..)),
    Runtime.faultAt_clearMarks]
  dsimp only
  cases ((s.chan c).cfg.schedule.steps[(s.staged c r).stepPtr]).kind <;> rfl

section
variable {k : Fin 4} {re : Bool} (h : commits (s.chan c).cfg (s.chan c).rt r = true) (hm : Machine.complete (s.staged c r) = true)
  (hres : resolveStep (s.chan c).cfg s.descs (s.staged c r).staging (s.staged c r).stepPtr = some (k, re))
include h hm hres

/-- A frame of a resolved step inside the guard is discarded (R36). -/
theorem State.intakeWrite_early
    (he : isEarly (s.chan c).cfg (s.staged c r) ((s.chan c).cfg.schedule.steps[k]).kind stamp = true) :
    s.intakeWrite c r stamp =
      (s.setChan c ⟨(s.chan c).cfg, (s.staged c r).clearMarks.flagResync re, (s.chan c).ctr.bumpEarly⟩).logAll
        (resyncEvents c re ++ [⟨.earlyFrame, some c, 0⟩]) := by
  rw [State.intakeWrite_of_no_sample h ((checkFrame_resolved (ch := { s.chan c with rt := s.staged c r }) hm hres).trans (decodeFrame_early (ch := { s.chan c with rt := (s.staged c r).flagResync re }) he))]
  rfl

variable (he : isEarly (s.chan c).cfg (s.staged c r) ((s.chan c).cfg.schedule.steps[k]).kind stamp = false)
include he

/-- A frame whose FAULT field meets FAULT_MASK is faulted at its step (R37, R40, R41). -/
theorem State.intakeWrite_faulted (hf : (stepDesc (s.chan c).cfg s.descs k).faulted (s.staged c r).staging = true) :
    s.intakeWrite c r stamp =
      (s.setChan c ⟨(s.chan c).cfg,
        { ((s.staged c r).clearMarks.flagResync re).faultAt ((s.chan c).cfg.schedule.steps[k]).kind with
          stepPtr := nextStep (s.chan c).cfg.schedule k },
        (s.chan c).ctr.bumpFaults⟩).logAll (resyncEvents c re ++ [⟨.frameFault, some c, 3⟩]) := by
  rw [State.intakeWrite_of_no_sample h
    ((checkFrame_resolved (ch := { s.chan c with rt := s.staged c r }) hm hres).trans ((decodeFrame_faulted (ch := { s.chan c with rt := (s.staged c r).flagResync re }) he hf).trans (faultFrame_eq ..))),
    Runtime.faultAt_clearMarks]
  rfl

variable (hf : (stepDesc (s.chan c).cfg s.descs k).faulted (s.staged c r).staging = false)
include hf

/-- A frame delivered at an AUX step updates the aux values (R39, R41). -/
theorem State.intakeWrite_aux (hk : ((s.chan c).cfg.schedule.steps[k]).kind = .aux) : s.intakeWrite c r stamp =
      (s.setChan c ⟨(s.chan c).cfg,
        { ((s.staged c r).clearMarks.flagResync re).takeAux (stepDesc (s.chan c).cfg s.descs k) (s.staged c r).staging with
          stepPtr := nextStep (s.chan c).cfg.schedule k },
        (s.chan c).ctr.bumpAuxFrames⟩).logAll (resyncEvents c re) := by
  rw [State.intakeWrite_of_no_sample h ((checkFrame_resolved (ch := { s.chan c with rt := s.staged c r }) hm hres).trans (decodeFrame_aux (ch := { s.chan c with rt := (s.staged c r).flagResync re }) he hf hk))]
  exact congrArg (fun rt : Runtime => (s.setChan c ⟨(s.chan c).cfg, rt, (s.chan c).ctr.bumpAuxFrames⟩).logAll
    (resyncEvents c re)) (Runtime.takeAux_clearMarks ..)

/-- A frame delivered at a POSITION step updates the aux values and hands on its sample (R38, R39, R41). -/
theorem State.intakeWrite_position (hk : ((s.chan c).cfg.schedule.steps[k]).kind = .position) :
    s.intakeWrite c r stamp =
      (s.setChan c ⟨(s.chan c).cfg,
        { ((s.staged c r).clearMarks.flagResync re).takeAux (stepDesc (s.chan c).cfg s.descs k) (s.staged c r).staging with
          stepPtr := nextStep (s.chan c).cfg.schedule k },
        (s.chan c).ctr.bumpFrames⟩).takeSample c
          (sampleOf (stepDesc (s.chan c).cfg s.descs k) (s.staged c r).staging stamp) (resyncEvents c re) := by
  rw [State.intakeWrite_of_sample h ((checkFrame_resolved (ch := { s.chan c with rt := s.staged c r }) hm hres).trans (decodeFrame_position (ch := { s.chan c with rt := (s.staged c r).flagResync re }) he hf hk))]
  exact congrArg (fun rt : Runtime => (s.setChan c ⟨(s.chan c).cfg, rt, (s.chan c).ctr.bumpFrames⟩).takeSample c
    (sampleOf (stepDesc (s.chan c).cfg s.descs k) (s.staged c r).staging stamp) (resyncEvents c re))
    (Runtime.takeAux_clearMarks ..)

end
end

/-- Settles O34: the field of a role, the aux values, and each commit without sample by the check that ends it. -/
theorem commitsWithoutSample : Obligations.CommitsWithoutSample := by
  unfold Obligations.CommitsWithoutSample
  refine ⟨fun d role => ⟨d.field_eq_some_iff role, d.field_eq_none_iff role⟩, fun rt d words => ?values,
    fun c r stamp s hcommit => ?commit⟩
  case values =>
    intro x
    refine ⟨rt.takeAux_frame d words, fun f hf => ?_, rt.takeAux_no_status d words, fun f hf => ?_,
      rt.takeAux_no_auxdata d words⟩
    · obtain ⟨hvalid, hvalue⟩ := rt.takeAux_status d words hf
      exact ⟨hvalid, fun hw => hvalue ▸ toNat_ofNat_decodeField words hw⟩
    · obtain ⟨hvalid, hvalue⟩ := rt.takeAux_auxdata d words hf
      exact ⟨hvalid, fun hw => hvalue ▸ toNat_ofNat_decodeField words hw⟩
  case commit =>
    intro cfg rt ctr cur cleared spoiled next ends allMarked
    have hspoiled (k : Fin 4) (x : Runtime) : spoiled k x = x.faultAt (cfg.schedule.steps[k]).kind := by
      simp only [spoiled]
      cases (cfg.schedule.steps[k]).kind <;> rfl
    have hmarked : complete rt = true ↔ allMarked := complete_iff rt
    refine ⟨fun hm => ?incomplete, fun hm hres => ?mismatch, fun k re hm hres => ?resolved⟩
    case incomplete =>
      rw [State.intakeWrite_incomplete hcommit (by rwa [← Bool.not_eq_true, hmarked]), hspoiled]
      rfl
    case mismatch =>
      rw [State.intakeWrite_mismatch hcommit (hmarked.2 hm) hres, hspoiled]
      rfl
    intro d resync flagged early faulted
    have hearly : isEarly cfg rt (cfg.schedule.steps[k]).kind stamp = true ↔ early := isEarly_iff cfg rt _ stamp
    have hfaulted : d.faulted rt.staging = true ↔ faulted := d.faulted_iff rt.staging
    refine ⟨fun he => ?early, fun he hf => ?faulted, fun he hf hk => ?delivered⟩
    case early =>
      rw [State.intakeWrite_early hcommit (hmarked.2 hm) hres (hearly.2 he)]
      rfl
    all_goals have hnot : isEarly cfg rt (cfg.schedule.steps[k]).kind stamp = false := by rwa [← Bool.not_eq_true, hearly]
    case faulted =>
      rw [State.intakeWrite_faulted hcommit (hmarked.2 hm) hres hnot (hfaulted.2 hf), hspoiled]
      rfl
    case delivered =>
      rw [State.intakeWrite_aux hcommit (hmarked.2 hm) hres hnot (Bool.eq_false_iff.2 (mt hfaulted.1 hf)) hk]
      rfl

end Sys2Proof.Machine
end

section
/-! PROOFS. Unwrapping, conditioning, arrivals and deadlines (03, 04), and the delivered POSITION frame that passes through them
(2.4). -/

namespace Sys2Proof.Machine

/-! ## Unwrapping (R44 to R47) -/

/-- The low W bits of a number kept in 48 bits are the W-bit pattern that agrees with it modulo 2^W. -/
theorem toNat_ofInt_mod {w p : Nat} {x : Int} (hw : w ≤ 48) (hp : p < 2 ^ w) (hx : (2 ^ w : Int) ∣ p - x) :
    (BitVec.ofInt 48 x).toNat % 2 ^ w = p := by
  have hdvd : (2 ^ w : Int) ∣ 2 ^ 48 := pow_dvd_pow 2 hw
  have hself : (p : Int) % 2 ^ w = p := Int.emod_eq_of_lt (by positivity) (by exact_mod_cast hp)
  have hcast : (((BitVec.ofInt 48 x).toNat % 2 ^ w : Nat) : Int) = p := by
    rw [Int.natCast_mod, BitVec.toNat_ofInt, Int.toNat_of_nonneg (Int.emod_nonneg _ (by decide))]
    simp only [Nat.cast_pow, Nat.cast_ofNat]
    rw [Int.emod_emod_of_dvd x hdvd, Int.modEq_iff_dvd.2 hx, hself]
  exact_mod_cast hcast

/-- A W-bit pattern read as a signed number lies in the signed range, and agrees with the pattern modulo 2^W. -/
theorem signedRead_spec {w x : Nat} (hw : 1 ≤ w) (hx : x < 2 ^ w) :
    -(2 ^ (w - 1)) ≤ signedRead w x ∧ signedRead w x < 2 ^ (w - 1) ∧ (2 ^ w : Int) ∣ x - signedRead w x := by
  have hhalf : (2 : Nat) ^ w = 2 * 2 ^ (w - 1) := by rw [← Nat.pow_succ', Nat.succ_eq_add_one, Nat.sub_add_cancel hw]
  have hcast : (2 : Int) ^ w = 2 * 2 ^ (w - 1) := by exact_mod_cast hhalf
  unfold signedRead
  split
  · next h =>
    have h' : (2 : Int) ^ (w - 1) ≤ x := by exact_mod_cast h
    have hx' : (x : Int) < 2 ^ w := by exact_mod_cast hx
    refine ⟨by omega, by omega, ?_⟩
    rw [show (x : Int) - (x - 2 ^ w) = 2 ^ w by omega]
  · next h =>
    have h' : (x : Int) < 2 ^ (w - 1) := by exact_mod_cast Nat.not_le.1 h
    exact ⟨by omega, h', by simp⟩

/-- The change between two frame positions: in the signed range of W bits, and their difference modulo 2^W (R46). -/
theorem unwrapDelta_spec {w : Nat} (hw : 1 ≤ w) (p q : Nat) :
    -(2 ^ (w - 1)) ≤ unwrapDelta w p q ∧ unwrapDelta w p q < 2 ^ (w - 1) ∧ (2 ^ w : Int) ∣ ((p : Int) - q) - unwrapDelta w p q := by
  have hpos : (0 : Int) < (2 ^ w : Nat) := by positivity
  have hnonneg := Int.emod_nonneg ((p : Int) - q) hpos.ne'
  have hlt := Int.emod_lt_of_pos ((p : Int) - q) hpos
  obtain ⟨hlo, hhi, hdvd⟩ := signedRead_spec hw (x := (((p : Int) - q) % (2 ^ w : Nat)).toNat) (by omega)
  refine ⟨hlo, hhi, ?_⟩
  rw [Int.toNat_of_nonneg hnonneg] at hdvd
  have hself : (2 ^ w : Int) ∣ ((p : Int) - q) - ((p : Int) - q) % (2 ^ w : Nat) := by
    push_cast
    exact Int.dvd_self_sub_emod
  have hsum := dvd_add hself hdvd
  rwa [sub_add_sub_cancel] at hsum

/-- A first sample's extension keeps the frame position in its low W bits (R45). -/
theorem firstPosition_mod {w p : Nat} (hw1 : 1 ≤ w) (hw : w ≤ 48) (hp : p < 2 ^ w) (se : Bool) :
    (firstPosition w p se).toNat % 2 ^ w = p := by
  have hp48 : p < 2 ^ 48 := hp.trans_le (Nat.pow_le_pow_right (by decide) hw)
  unfold firstPosition
  cases se with
  | false => rw [if_neg (by decide), BitVec.toNat_ofNat, Nat.mod_eq_of_lt hp48, Nat.mod_eq_of_lt hp]
  | true =>
    obtain ⟨-, -, hdvd⟩ := signedRead_spec hw1 hp
    rw [if_pos rfl, toNat_ofInt_mod hw hp hdvd]

/-- EP moved by the change between two frame positions agrees with the new one in its low W bits (R46, R47). -/
theorem add_ofInt_mod {w p q : Nat} {ep : Pos} {d : Int} (hw : w ≤ 48) (hp : p < 2 ^ w) (hq : ep.toNat % 2 ^ w = q)
    (hd : (2 ^ w : Int) ∣ ((p : Int) - q) - d) : (ep + BitVec.ofInt 48 d).toNat % 2 ^ w = p := by
  have hep : ep + BitVec.ofInt 48 d = BitVec.ofInt 48 (ep.toNat + d) := by
    rw [BitVec.ofInt_add, BitVec.ofInt_natCast, BitVec.ofNat_toNat, BitVec.setWidth_eq]
  have hlow : (2 ^ w : Int) ∣ ep.toNat - q := by
    have hself : (2 ^ w : Int) ∣ (ep.toNat : Int) - (ep.toNat : Int) % 2 ^ w := Int.dvd_self_sub_emod
    rwa [show (ep.toNat : Int) % 2 ^ w = q by exact_mod_cast hq] at hself
  rw [hep]
  refine toNat_ofInt_mod hw hp ?_
  have hsum := dvd_sub hd hlow
  rwa [show ((p : Int) - q) - d - (ep.toNat - q) = p - (ep.toNat + d) by ring] at hsum

theorem Runtime.takePosition_first {rt : Runtime} (h : rt.pLast = none) (x : Sample) : rt.takePosition x =
    { rt with ep := firstPosition rt.width x.framePosition x.signExtends, pLast := some x.framePosition } := by
  simp only [Runtime.takePosition, h]

theorem Runtime.takePosition_next {rt : Runtime} {q : Nat} (h : rt.pLast = some q) (x : Sample) : rt.takePosition x =
    { rt with ep := rt.ep + BitVec.ofInt 48 (unwrapDelta rt.width x.framePosition q), pLast := some x.framePosition } := by
  simp only [Runtime.takePosition, h]

/-- An accepted frame position moves EP and P_last alone. -/
theorem Runtime.takePosition_frame (rt : Runtime) (x : Sample) :
    rt.takePosition x = { rt with ep := (rt.takePosition x).ep, pLast := some x.framePosition } := by
  cases h : rt.pLast with
  | none => rw [rt.takePosition_first h]
  | some q => rw [rt.takePosition_next h]

/-- EP agrees with an accepted frame position in its low W bits, if it agreed with the one before it (R45 to R47). -/
theorem Runtime.takePosition_mod {rt : Runtime} {x : Sample} (hw1 : 1 ≤ rt.width) (hw : rt.width ≤ 48)
    (hp : x.framePosition < 2 ^ rt.width) (hlast : ∀ q, rt.pLast = some q → rt.ep.toNat % 2 ^ rt.width = q) :
    (rt.takePosition x).ep.toNat % 2 ^ rt.width = x.framePosition := by
  cases h : rt.pLast with
  | none =>
    rw [rt.takePosition_first h]
    exact firstPosition_mod hw1 hw hp _
  | some q =>
    rw [rt.takePosition_next h]
    obtain ⟨-, -, hdvd⟩ := unwrapDelta_spec hw1 x.framePosition q
    exact add_ofInt_mod hw hp (hlast q h) hdvd

/-- The extension of a first sample by its value: signed from bit W − 1, or unsigned (R45). -/
theorem firstPosition_toInt {w p : Nat} (hw1 : 1 ≤ w) (hw : w ≤ 48) (hp : p < 2 ^ w) :
    (firstPosition w p true).toInt = signedRead w p := by
  obtain ⟨hlo, hhi, -⟩ := signedRead_spec hw1 hp
  have hbound : (2 : Int) ^ (w - 1) ≤ 2 ^ 47 := by exact_mod_cast Nat.pow_le_pow_right (by decide) (by omega)
  exact BitVec.toInt_ofInt_eq_self (by decide) (by omega) (by omega)

/-- Settles O36: the first sample by its extension, any other by the change of R46. -/
theorem unwrapFollowsThePosition : Obligations.UnwrapFollowsThePosition := by
  unfold Obligations.UnwrapFollowsThePosition
  intro rt x hw1 hw hp p rt'
  refine ⟨fun ht => ?_, fun t tw enc ht => ?_, rt.takePosition_frame x, fun hfirst => ?first, fun q hq hlt => ?next⟩
  · simp only [p, Sample.framePosition, ht]
  · simp only [p, Sample.framePosition, ht]
  case first =>
    have hrt' : rt' = _ := rt.takePosition_first hfirst x
    refine ⟨rt.takePosition_mod hw1 hw hp (by simp [hfirst]), fun hunsigned => ?_, fun t tw hsigned => ?_⟩
    · have hse : x.signExtends = false := by
        unfold Sample.signExtends
        split
        · next t tw ht => exact absurd ht (hunsigned t tw)
        · rfl
      have hp48 : p < 2 ^ 48 := hp.trans_le (Nat.pow_le_pow_right (by decide) hw)
      rw [hrt', hse]
      exact Nat.mod_eq_of_lt hp48
    · have hse : x.signExtends = true := by simp only [Sample.signExtends, hsigned]
      rw [hrt', hse]
      exact firstPosition_toInt hw1 hw hp
  case next =>
    have hrt' : rt' = _ := rt.takePosition_next hq x
    obtain ⟨hlo, hhi, hdvd⟩ := unwrapDelta_spec hw1 p q
    exact ⟨unwrapDelta rt.width p q, hlo, hhi, hdvd, by rw [hrt'], fun hep =>
      rt.takePosition_mod hw1 hw hp fun q' hq' => by rw [hq, Option.some.injEq] at hq'; exact hq' ▸ hep⟩

/-! ## The Conditioner (R50 to R60) -/

/-- The fields after an output, with the conditioner state and the violation count it leaves (R50). -/
def Runtime.outputs (rt : Runtime) (op : Pos) (st : CondState) (viol : Nat) : Runtime :=
  { rt.output op with cond := st, viol := viol }

/-- The clamped change moves the output by LIMIT towards the sample (R54). -/
theorem ofInt_clampTo {m : Int} {l : Nat} (h : m < -(l : Int) ∨ (l : Int) < m) :
    BitVec.ofInt 48 (clampTo m l) = if m < 0 then -(BitVec.ofNat 48 l) else BitVec.ofNat 48 l := by
  unfold clampTo
  rcases h with h | h
  · rw [if_pos (by omega), show max (-(l : Int)) (min m l) = -(l : Int) by omega, BitVec.ofInt_neg, BitVec.ofInt_natCast]
  · rw [if_neg (by omega), show max (-(l : Int)) (min m l) = l by omega, BitVec.ofInt_natCast]

section
variable {cfg : ChanConfig} {rt : Runtime}

/-- The output the SLEW state gives: LIMIT from the origin, towards the sample (R54, R55). -/
def slewOutput (cfg : ChanConfig) (rt : Runtime) : Pos :=
  limitOrigin cfg.filterMode rt
    + BitVec.ofInt 48 (clampTo (rt.ep - limitOrigin cfg.filterMode rt).toInt cfg.limit)

theorem conditionReal_off (h : cfg.filterMode = .off) :
    conditionReal cfg rt = (rt.outputs rt.ep .track 0, .none, none) := by
  simp only [conditionReal, h]
  rfl

theorem conditionReal_prime (h : cfg.filterMode ≠ .off) (hp : rt.cond = .prime) :
    conditionReal cfg rt = (rt.outputs rt.ep .track 0, { CondFlags.none with priming := true }, none) := by
  cases hm : cfg.filterMode with
  | off => exact absurd hm h
  | rate => simp only [conditionReal, hm, hp, if_true]; rfl
  | curve => simp only [conditionReal, hm, hp, if_true]; rfl

theorem conditionReal_limited (h : cfg.filterMode ≠ .off) (hp : rt.cond ≠ .prime) :
    conditionReal cfg rt = conditionLimited cfg rt := by
  cases hm : cfg.filterMode with
  | off => exact absurd hm h
  | rate => simp only [conditionReal, hm, hp, if_false]
  | curve => simp only [conditionReal, hm, hp, if_false]

theorem conditionLimited_within (h : (rt.ep - limitOrigin cfg.filterMode rt).toInt.natAbs ≤ cfg.limit) :
    conditionLimited cfg rt =
      (rt.outputs rt.ep .track 0, .none, if rt.cond = .slew then some .slewEnd else none) := by
  simp only [conditionLimited, h, if_true]
  rfl

theorem conditionLimited_slewing (h : ¬ (rt.ep - limitOrigin cfg.filterMode rt).toInt.natAbs ≤ cfg.limit)
    (hs : rt.cond = .slew) : conditionLimited cfg rt =
      (rt.outputs (slewOutput cfg rt) .slew cfg.persist, { CondFlags.none with slewing := true }, none) := by
  simp only [conditionLimited, h, hs, if_true, if_false]
  rfl

theorem conditionLimited_holdover (h : ¬ (rt.ep - limitOrigin cfg.filterMode rt).toInt.natAbs ≤ cfg.limit)
    (hs : rt.cond ≠ .slew) (hv : rt.viol + 1 < cfg.persist) : conditionLimited cfg rt =
      (rt.outputs (holdoverOutput cfg.filterMode rt) .holdover (rt.viol + 1), { CondFlags.none with limited := true }, none) := by
  simp only [conditionLimited, h, hs, hv, if_true, if_false]
  rfl

theorem conditionLimited_slewBegins (h : ¬ (rt.ep - limitOrigin cfg.filterMode rt).toInt.natAbs ≤ cfg.limit)
    (hs : rt.cond ≠ .slew) (hv : ¬ rt.viol + 1 < cfg.persist) : conditionLimited cfg rt =
      (rt.outputs (slewOutput cfg rt) .slew cfg.persist, { CondFlags.none with slewing := true }, some .slewBegin) := by
  simp only [conditionLimited, h, hs, hv, if_false]
  rfl

end

theorem limitOrigin_eq (mode : FilterMode) (rt : Runtime) :
    limitOrigin mode rt = if mode = .curve then rt.op + rt.vel else rt.op := by
  cases mode <;> rfl

theorem holdoverOutput_eq (mode : FilterMode) (rt : Runtime) :
    holdoverOutput mode rt = if mode = .curve then rt.op + rt.vel + rt.acc else rt.op + rt.vel := by
  cases mode <;> rfl

/-- Settles O37: the samples by the state found, the real outputs row by row of R54, the entry and synthesized outputs. -/
theorem conditionerOutputs : Obligations.ConditionerOutputs := by
  unfold Obligations.ConditionerOutputs
  refine ⟨fun cfg rt => ⟨rfl, ?found⟩, fun cfg rt => ?real, fun cfg rt => ⟨rfl, fun op hop => ?synth⟩⟩
  case found => rintro found (rfl | rfl) <;> rfl
  case synth =>
    have hpos : synthPosition cfg rt = op := by
      rw [hop, synthPosition]
      cases cfg.synthPolicy <;> cases cfg.filterMode <;> rfl
    rw [conditionSynth, hpos]
    rfl
  case real =>
    intro formed from_ m held slewed
    have hfrom : limitOrigin cfg.filterMode rt = from_ := limitOrigin_eq _ rt
    have hheld : holdoverOutput cfg.filterMode rt = held := holdoverOutput_eq _ rt
    have hm : (rt.ep - limitOrigin cfg.filterMode rt).toInt = m := by rw [hfrom]
    refine ⟨conditionReal_off, conditionReal_prime, fun hmode hcond hlo hhi => ?within, fun hmode hover => ?_⟩
    case within =>
      rw [conditionReal_limited hmode hcond, conditionLimited_within (by rw [hm]; omega)]
      rfl
    have hlimit : ¬ (rt.ep - limitOrigin cfg.filterMode rt).toInt.natAbs ≤ cfg.limit := by rw [hm]; omega
    have hslew : slewOutput cfg rt = slewed := by rw [slewOutput, hm, ofInt_clampTo hover, hfrom]
    have hnot (hcond : rt.cond = .track ∨ rt.cond = .holdover) : rt.cond ≠ .prime ∧ rt.cond ≠ .slew := by
      rcases hcond with h | h <;> rw [h] <;> decide
    refine ⟨fun hcond => ?slewing, fun hcond hv => ?holdover, fun hcond hv => ?begins⟩
    case slewing =>
      rw [conditionReal_limited hmode (by rw [hcond]; decide), conditionLimited_slewing hlimit hcond, hslew]
      rfl
    case holdover =>
      obtain ⟨hprime, hns⟩ := hnot hcond
      rw [conditionReal_limited hmode hprime, conditionLimited_holdover hlimit hns hv, hheld]
      rfl
    case begins =>
      obtain ⟨hprime, hns⟩ := hnot hcond
      rw [conditionReal_limited hmode hprime, conditionLimited_slewBegins hlimit hns (Nat.not_lt.2 hv), hslew]
      rfl

/-! ## Arrivals (R69 to R75) -/

/-- The newest intervals of a history, as many as counted: what is left when the older ones are dropped. -/
theorem drop_of_append {α : Type} {h older newest : List α} (hsplit : h = older ++ newest) {c : Nat}
    (hc : newest.length = c) : h.drop (h.length - c) = newest := by
  subst hsplit hc
  rw [List.length_append, Nat.add_sub_cancel, List.drop_left]

/-- The base interval of a history that is not empty: the mean of the newest min(h, D), clamped (R71). -/
theorem baseOf_of_append {cfg : ChanConfig} {h older newest : List Nat} (hne : h ≠ []) (hsplit : h = older ++ newest)
    (hc : newest.length = min h.length cfg.avgDepth) :
    baseOf cfg h = max 16 (min 16777215 (newest.sum / newest.length)) := by
  cases h with
  | nil => exact absurd rfl hne
  | cons a l =>
    rw [min_comm 16777215]
    simp only [baseOf]
    rw [← hc, drop_of_append hsplit rfl]

theorem length_pushInterval (h : List Nat) (x : Nat) : (pushInterval h x).length = min 8 (h.length + 1) := by
  simp only [pushInterval, List.length_drop, List.length_append, List.length_singleton, Config.historyCap]
  omega

/-- A clean interval is entered (R70, R71). -/
theorem Runtime.judgeInterval_clean {rt : Runtime} {last : Word} (cfg : ChanConfig) (stamp : Word)
    (hlast : rt.lastArrival = some last) (hmiss : rt.miss = 0) (hmark : rt.mark = .clean) :
    rt.judgeInterval cfg stamp = { rt with
      history := pushInterval rt.history (intervalOf last stamp)
      base := baseOf cfg (pushInterval rt.history (intervalOf last stamp)) } := by
  simp only [Runtime.judgeInterval, hlast, hmiss, hmark, and_self, if_true]

/-- An interval that is not clean changes nothing (R70). -/
theorem Runtime.judgeInterval_unclean {rt : Runtime} (cfg : ChanConfig) (stamp : Word)
    (h : rt.miss ≠ 0 ∨ rt.mark = .spoiled) : rt.judgeInterval cfg stamp = rt := by
  unfold Runtime.judgeInterval
  split
  · rw [if_neg]
    rintro ⟨hmiss, hmark⟩
    rcases h with h | h
    · exact h hmiss
    · rw [hmark] at h; exact absurd h (by decide)
  · rfl

/-- Settles O38: the interval judged clean or not, and the arrival by the state it finds. -/
theorem arrivalsAndIntervals : Obligations.ArrivalsAndIntervals := by
  unfold Obligations.ArrivalsAndIntervals
  refine ⟨fun cfg rt stamp last hlast => ?intervals, fun c cfg rt stamp => ?arrivals⟩
  case intervals =>
    intro x rt'
    refine ⟨fun hmiss hmark => ?_, fun h => Runtime.judgeInterval_unclean cfg stamp h⟩
    have hrt' : rt' = _ := Runtime.judgeInterval_clean cfg stamp hlast hmiss hmark
    refine ⟨(rt.history ++ [x]).take ((rt.history ++ [x]).length - 8), pushInterval rt.history x,
      (List.take_append_drop _ _).symm, length_pushInterval _ _, by rw [hrt']; rfl, fun older newest hsplit hlen => ?_⟩
    have hne : pushInterval rt.history x ≠ [] := by
      rw [← List.length_pos_iff_ne_nil, length_pushInterval]
      omega
    rw [hrt']
    exact baseOf_of_append hne hsplit hlen
  case arrivals =>
    intro armed
    refine ⟨rfl, fun hstate => ?_, rfl⟩
    intro judged
    have hjudged : judged.state = .running := by
      simp only [judged, Runtime.judgeInterval]
      split
      · split <;> exact hstate
      · exact hstate
    refine congrArg (·, []) (?_ : rt.arriveRunning cfg stamp = _)
    have harrive : rt.arriveRunning cfg stamp =
        (if rt.miss = 0 then judged else { judged with pend := { judged.pend with afterSynth := true } }).armFrom stamp
          (sixteenths judged.base cfg.deadlineK) := rfl
    rw [harrive]
    clear_value judged
    cases judged
    by_cases hmiss : rt.miss = 0
    · simp_all [armed, Runtime.armFrom, after, sixteenths]
    · simp_all [armed, Runtime.armFrom, after, sixteenths, Nat.pos_of_ne_zero hmiss]

/-! ## Records generated in a happening (R84 to R92) -/

/-- The channel once it has generated a record (R88, R89). -/
def Channel.afterRecord (ch : Channel) : Channel := { ch with rt := ch.rt.afterRecord }

section
variable {s : State} {c : ChanId} {ch : Channel} {kind : RecordKind} {cf : CondFlags} {np : Bool} {time : Word}

/-- A record generated while the Record Queue has room (R91). -/
theorem State.generate_of_room (h : s.records.length < 8) : (s.setChan c ch).generate c kind cf np time =
    ({ s.setChan c ch.afterRecord with records := s.records ++ [buildRecord c ch kind cf np time] }, []) := by
  rcases (s.setChan c ch).generate_spec c kind cf np time with ⟨-, hg⟩ | ⟨hfull, -⟩
  · rw [hg, State.chan_setChan_self, State.setChan_setChan]
    rfl
  · exact absurd hfull (Nat.not_le.2 h)

/-- A record generated while the Record Queue is full is dropped and counted (R92). -/
theorem State.generate_of_full (h : 8 ≤ s.records.length) : (s.setChan c ch).generate c kind cf np time =
    (s.setChan c { ch.afterRecord with ctr := ch.ctr.bumpDropped }, [⟨.recordDropped, some c, ch.rt.nextSeq⟩]) := by
  rcases (s.setChan c ch).generate_spec c kind cf np time with ⟨hroom, -⟩ | ⟨-, hg⟩
  · exact absurd hroom (Nat.not_lt.2 h)
  · rw [hg, State.chan_setChan_self, State.setChan_setChan]
    rfl

/-- The events of a happening that ends in a record: raised in their order when it is queued (R91, R142). -/
theorem State.raise_generate_of_room (h : s.records.length < 8) (es : List RawEvent) :
    (((s.setChan c ch).generate c kind cf np time).1.raise [es, ((s.setChan c ch).generate c kind cf np time).2]) =
      es.foldl State.logEvent
        { s.setChan c ch.afterRecord with records := s.records ++ [buildRecord c ch kind cf np time] } := by
  rw [State.generate_of_room h, State.raise_pair_nil]
  rfl

/-- The events of a happening that ends in a dropped record: RECORD_DROPPED is entered among them (R92, R142). -/
theorem State.raise_generate_of_full (h : 8 ≤ s.records.length) (es : List RawEvent) : ∃ (order : List RawEvent) (k : Nat),
    order.Perm (es ++ [⟨.recordDropped, some c, ch.rt.nextSeq⟩])
      ∧ (((s.setChan c ch).generate c kind cf np time).1.raise [es, ((s.setChan c ch).generate c kind cf np time).2]) =
        order.foldl State.logEvent { s.setChan c { ch.afterRecord with ctr := ch.ctr.bumpDropped } with choice := k } := by
  rw [State.generate_of_full h]
  obtain ⟨order, k, hraise, hperm, -⟩ := State.raise_eq (s.setChan c { ch.afterRecord with ctr := ch.ctr.bumpDropped })
    [es, [⟨.recordDropped, some c, ch.rt.nextSeq⟩]]
  exact ⟨order, k, by simpa using hperm, hraise⟩

end

/-! ## Deadlines (R77 to R79) -/

section
variable {s : State} {c : ChanId} {d : Word}

theorem exec_deadlineReached_waiting (hr : s.rstAsserted = false) (hd : (s.chan c).rt.deadline = some d)
    (hreached : reached s.tick d = true) (hstate : (s.chan c).rt.state = .waiting) :
    exec (.deadlineReached c) s = .next (s.waitingDeadline c d) := by
  simp only [exec, execDeadlineReached, hd, hreached, hr, hstate, and_self, if_true]

theorem exec_deadlineReached_running (hr : s.rstAsserted = false) (hd : (s.chan c).rt.deadline = some d)
    (hreached : reached s.tick d = true) (hstate : (s.chan c).rt.state = .running) :
    exec (.deadlineReached c) s = .next (s.runningDeadline c d) := by
  simp only [exec, execDeadlineReached, hd, hreached, hr, hstate, and_self, if_true]

theorem exec_deadlineReached_not (hd : (s.chan c).rt.deadline = some d) (hreached : reached s.tick d = false) :
    exec (.deadlineReached c) s = .next s := by
  simp only [exec, execDeadlineReached, hd, hreached, Bool.false_eq_true, false_and, if_false]

theorem State.waitingDeadline_of_lt (h : (s.chan c).rt.miss + 1 < (s.chan c).cfg.missLimit) : s.waitingDeadline c d =
    s.setChan c { s.chan c with rt := { (s.chan c).rt with
      miss := (s.chan c).rt.miss + 1, deadline := some (after d (s.chan c).cfg.nominal) } } := if_pos h

/-- The channel as a deadline at MISS_LIMIT leaves it, before its LOST record (R77, R79). -/
def Channel.lost (ch : Channel) : Channel := { ch with rt := ch.rt.becomeLost ch.cfg }

theorem State.waitingDeadline_of_not_lt (h : ¬ (s.chan c).rt.miss + 1 < (s.chan c).cfg.missLimit) :
    s.waitingDeadline c d = (((s.setChan c (s.chan c).lost).generate c .lost .none true d).1.raise
      [[⟨.chLost, some c, 0⟩], ((s.setChan c (s.chan c).lost).generate c .lost .none true d).2]) := if_neg h

theorem State.runningDeadline_of_not_lt (h : ¬ (s.chan c).rt.miss + 1 < (s.chan c).cfg.missLimit) :
    s.runningDeadline c d = (((s.setChan c (s.chan c).lost).generate c .lost .none false d).1.raise
      [[⟨.chLost, some c, 0⟩], ((s.setChan c (s.chan c).lost).generate c .lost .none false d).2]) := if_neg h

/-- The synthesized output of a channel whose deadline is missed, with its flags (R78). -/
def Channel.synthOutput (ch : Channel) : Runtime × CondFlags := conditionSynth ch.cfg { ch.rt with miss := ch.rt.miss + 1 }

/-- The channel after the synthesized output, before its SYNTH record (R78). -/
def Channel.synthesized (ch : Channel) (d : Word) : Channel :=
  { ch with rt := { ch.synthOutput.1 with deadline := some (after d ch.rt.base) }, ctr := ch.ctr.bumpSynth }

theorem State.runningDeadline_of_lt (h : (s.chan c).rt.miss + 1 < (s.chan c).cfg.missLimit) :
    s.runningDeadline c d = (((s.setChan c ((s.chan c).synthesized d)).generate c .synth (s.chan c).synthOutput.2 false d).1.raise
      [[], ((s.setChan c ((s.chan c).synthesized d)).generate c .synth (s.chan c).synthOutput.2 false d).2]) := by
  rw [State.raise_nil_pair, ← State.raise_single]
  exact if_pos h

end

/-- Settles O39: a deadline reached by state and miss count, and one not reached. -/
theorem deadlineOutcomes : Obligations.DeadlineOutcomes := by
  unfold Obligations.DeadlineOutcomes
  intro c d s hr hd cfg rt generated
  have hgen {x : Runtime} {ctr : Counters} (kind : RecordKind) (f : CondFlags) (np : Bool) (es : List RawEvent) :
      generated x ctr kind f np es ((((s.setChan c ⟨cfg, x, ctr⟩).generate c kind f np d).1.raise
        [es, ((s.setChan c ⟨cfg, x, ctr⟩).generate c kind f np d).2])) :=
    ⟨fun h => State.raise_generate_of_room (ch := ⟨cfg, x, ctr⟩) h es,
      fun h => State.raise_generate_of_full (ch := ⟨cfg, x, ctr⟩) h es⟩
  refine ⟨fun hreached => ?_, fun hnot => exec_deadlineReached_not hd (decide_eq_false (Nat.not_lt.2 hnot))⟩
  have hwaiting := exec_deadlineReached_waiting hr hd (decide_eq_true hreached)
  have hrunning := exec_deadlineReached_running hr hd (decide_eq_true hreached)
  refine ⟨fun hstate hlt => ?waiting, fun hstate hlt => ?running, fun hstate hle => ?lost⟩
  case waiting =>
    rw [hwaiting hstate]
    exact congrArg Host.Outcome.next (State.waitingDeadline_of_lt hlt)
  case running =>
    intro out
    refine ⟨_, hrunning hstate, ?_⟩
    rw [State.runningDeadline_of_lt hlt]
    exact hgen _ _ _ _
  case lost =>
    rcases hstate with hstate | hstate
    · refine ⟨_, hwaiting hstate, ?_⟩
      rw [State.waitingDeadline_of_not_lt (Nat.not_lt.2 hle), hstate]
      exact hgen _ _ _ _
    · refine ⟨_, hrunning hstate, ?_⟩
      rw [hstate]
      rw [State.runningDeadline_of_not_lt (Nat.not_lt.2 hle)]
      exact hgen _ _ _ _

/-! ## The delivered POSITION frame (R38, R63) -/

/-- The fields handed to the Conditioner: the aux values, RESYNCED, the step pointer and the cleared marks. -/
theorem Runtime.takeAux_handed (rt : Runtime) (d : Descriptor) (words : Vector Word 4) (re : Bool) (next : Fin 4) :
    { (rt.clearMarks.flagResync re).takeAux d words with stepPtr := next } = { rt.takeAux d words with
      pend := { rt.pend with resynced := rt.pend.resynced || re }, stepPtr := next, marks := Vector.replicate 4 false } := by
  unfold Runtime.takeAux
  cases d.field .status <;> cases d.field .auxdata <;> rfl

/-- A real output sets OP with V and A, the conditioner state and the violation count alone, and leaves PRIME (R50, R52). -/
theorem conditionReal_outputs (cfg : ChanConfig) (rt : Runtime) :
    ∃ op st viol f k, st ≠ .prime ∧ conditionReal cfg rt = (rt.outputs op st viol, f, k) := by
  by_cases hmode : cfg.filterMode = .off
  · exact ⟨_, _, _, _, _, by decide, conditionReal_off hmode⟩
  by_cases hprime : rt.cond = .prime
  · exact ⟨_, _, _, _, _, by decide, conditionReal_prime hmode hprime⟩
  rw [conditionReal_limited hmode hprime]
  by_cases hlimit : (rt.ep - limitOrigin cfg.filterMode rt).toInt.natAbs ≤ cfg.limit
  · exact ⟨_, _, _, _, _, by decide, conditionLimited_within hlimit⟩
  by_cases hslew : rt.cond = .slew
  · exact ⟨_, _, _, _, _, by decide, conditionLimited_slewing hlimit hslew⟩
  by_cases hviol : rt.viol + 1 < cfg.persist
  · exact ⟨_, _, _, _, _, by decide, conditionLimited_holdover hlimit hslew hviol⟩
  · exact ⟨_, _, _, _, _, by decide, conditionLimited_slewBegins hlimit hslew hviol⟩

/-- A sample's output sets OP, V, A, the conditioner state and the violation count alone (R50, R51). -/
theorem conditionSample_frame (cfg : ChanConfig) (found : LifeCycle) (rt : Runtime) :
    (conditionSample cfg found rt).1 = { rt with
      op := (conditionSample cfg found rt).1.op, vel := (conditionSample cfg found rt).1.vel
      acc := (conditionSample cfg found rt).1.acc, cond := (conditionSample cfg found rt).1.cond
      viol := (conditionSample cfg found rt).1.viol } := by
  by_cases hfound : found = .running
  · obtain ⟨op, st, viol, f, k, -, h⟩ := conditionReal_outputs cfg rt
    rw [hfound, show conditionSample cfg .running rt = conditionReal cfg rt from rfl, h]
    rfl
  · cases found with
    | running => exact absurd rfl hfound
    | _ => rfl

theorem conditionSample_state (cfg : ChanConfig) (found : LifeCycle) (rt : Runtime) :
    (conditionSample cfg found rt).1.state = rt.state := by
  rw [conditionSample_frame]

theorem Runtime.takePosition_state (rt : Runtime) (x : Sample) : (rt.takePosition x).state = rt.state := by
  rw [Runtime.takePosition_frame]

theorem Runtime.takeAux_state (rt : Runtime) (d : Descriptor) (words : Vector Word 4) :
    (rt.takeAux d words).state = rt.state := by
  rw [Runtime.takeAux_frame]

/-- An interval judged sets the history and the base interval alone (R70, R71). -/
theorem Runtime.judgeInterval_frame (cfg : ChanConfig) (rt : Runtime) (stamp : Word) : rt.judgeInterval cfg stamp =
    { rt with history := (rt.judgeInterval cfg stamp).history, base := (rt.judgeInterval cfg stamp).base } := by
  unfold Runtime.judgeInterval
  split
  · split <;> rfl
  · rfl

/-- An arrival at a live channel leaves it RUNNING (R73 to R75). -/
theorem takeArrival_state {c : ChanId} {cfg : ChanConfig} {rt : Runtime} {stamp : Word} (h : rt.state.intakeMatched = true) :
    (takeArrival c cfg rt.state rt stamp).1.state = .running := by
  cases hstate : rt.state with
  | waiting => rfl
  | lost => rfl
  | running =>
    have hjudged : (rt.judgeInterval cfg stamp).state = rt.state := by rw [Runtime.judgeInterval_frame]
    simp only [takeArrival, Runtime.arriveRunning, Runtime.armFrom]
    split <;> exact hjudged.trans hstate
  | disabled => rw [hstate] at h; exact absurd h (by decide)
  | draining => rw [hstate] at h; exact absurd h (by decide)

/-- The event of an arrival: CH_REACQUIRED at a LOST channel (R75). -/
theorem takeArrival_events (c : ChanId) (cfg : ChanConfig) (found : LifeCycle) (rt : Runtime) (stamp : Word) :
    (takeArrival c cfg found rt stamp).2 = if found = .lost then [⟨.chReacquired, some c, 0⟩] else [] := by
  cases found <;> rfl

section
variable {s : State} {c : ChanId} {ch : Channel} {kind : RecordKind} {cf : CondFlags} {np : Bool} {time : Word}

/-- Two blocks' events and a record, queued or dropped: the first block's order is kept (R91, R92, R142). -/
theorem State.raise_blocks_generate (a b : List RawEvent) : ∃ (order : List RawEvent) (k : Nat), a.Sublist order
    ∧ (s.records.length < 8 → order.Perm (a ++ b)
        ∧ (((s.setChan c ch).generate c kind cf np time).1.raise [a, b, ((s.setChan c ch).generate c kind cf np time).2]) =
          order.foldl State.logEvent { s.setChan c ch.afterRecord with
            records := s.records ++ [buildRecord c ch kind cf np time], choice := k })
    ∧ (8 ≤ s.records.length → order.Perm (a ++ b ++ [⟨.recordDropped, some c, ch.rt.nextSeq⟩])
        ∧ (((s.setChan c ch).generate c kind cf np time).1.raise [a, b, ((s.setChan c ch).generate c kind cf np time).2]) =
          order.foldl State.logEvent { s.setChan c { ch.afterRecord with ctr := ch.ctr.bumpDropped } with choice := k }) := by
  rcases Nat.lt_or_ge s.records.length 8 with hroom | hfull
  · rw [State.generate_of_room hroom]
    obtain ⟨order, k, hraise, hperm, hsub⟩ := State.raise_eq
      { s.setChan c ch.afterRecord with records := s.records ++ [buildRecord c ch kind cf np time] } [a, b, []]
    exact ⟨order, k, hsub a (by simp), fun _ => ⟨by simpa using hperm, hraise⟩, fun h => absurd h (Nat.not_le.2 hroom)⟩
  · rw [State.generate_of_full hfull]
    obtain ⟨order, k, hraise, hperm, hsub⟩ := State.raise_eq (s.setChan c { ch.afterRecord with ctr := ch.ctr.bumpDropped })
      [a, b, [⟨.recordDropped, some c, ch.rt.nextSeq⟩]]
    exact ⟨order, k, hsub a (by simp), fun h => absurd h (Nat.not_lt.2 hfull), fun _ => ⟨by simpa using hperm, hraise⟩⟩

/-- A sample taken by a channel just replaced (R63). -/
theorem State.takeSample_setChan (x : Sample) (before : List RawEvent) : (s.setChan c ch).takeSample c x before =
    (((s.setChan c (ch.takeSample c x).1).generate c .sample (ch.takeSample c x).2.1 false x.stamp).1.raise
      [before ++ (ch.takeSample c x).2.2.1, (ch.takeSample c x).2.2.2,
        ((s.setChan c (ch.takeSample c x).1).generate c .sample (ch.takeSample c x).2.1 false x.stamp).2]) := by
  simp only [State.takeSample, State.chan_setChan_self, State.setChan_setChan]

end

/-- Settles O35: the sample's parts, the state it leaves, and the whole next state by the Record Queue's room. -/
theorem acceptedSampleTaken : Obligations.AcceptedSampleTaken := by
  unfold Obligations.AcceptedSampleTaken
  refine ⟨fun d words stamp => ?sample, fun c r stamp k re s hlive hcommit => ?taken⟩
  case sample =>
    intro x
    refine ⟨rfl, fun f hf => ⟨?_, ?_⟩, fun f hf => ?_, fun hf => ?_⟩
    · simp only [x, sampleOf, hf]
    · simp only [x, sampleOf, Descriptor.fieldWidth, hf]
    · simp only [x, sampleOf, hf, Option.map_some]
    · simp only [x, sampleOf, hf, Option.map_none]
  case taken =>
    intro cfg rt d hm hres hk he hf sample handed out arrived ctr record gone resync slew reacquired
    have hhanded : handed.state = rt.state := Runtime.takeAux_state rt d rt.staging
    have hstate : out.1.state = rt.state :=
      (conditionSample_state ..).trans ((Runtime.takePosition_state handed sample).trans hhanded)
    have harrived : arrived.state = .running := by
      have := takeArrival_state (c := c) (cfg := cfg) (stamp := stamp) (rt := out.1) (by rw [hstate]; exact hlive)
      rwa [hstate] at this
    have hwrite : s.intakeWrite c r stamp =
        (s.setChan c ⟨cfg, handed, (s.chan c).ctr.bumpFrames⟩).takeSample c sample resync := by
      rw [State.intakeWrite_position hcommit ((complete_iff rt).2 hm) hres (by rw [hk]; exact he) hf hk,
        Runtime.takeAux_handed]
      rfl
    have hsample : Channel.takeSample c ⟨cfg, handed, (s.chan c).ctr.bumpFrames⟩ sample =
        (⟨cfg, arrived, ctr⟩, out.2.1, slew, reacquired) := by
      simp only [Channel.takeSample, takeArrival_events, hhanded]
      rfl
    refine ⟨harrived, ?_⟩
    rw [hwrite, State.takeSample_setChan, hsample]
    exact State.raise_blocks_generate (ch := ⟨cfg, arrived, ctr⟩) (resync ++ slew) reacquired

end Sys2Proof.Machine
end

section
/-! PROOFS. What the commands can do to a channel: the rules every move of a channel keeps, and the moves themselves. -/

namespace Sys2Proof.Machine

/-! ## Counters that do not decrease (R150) -/

/-- None of the nine counters has decreased. -/
def Counters.Le (a b : Counters) : Prop :=
  ∀ f : Counters → Half, f ∈ [Counters.frames, Counters.auxFrames, Counters.faults, Counters.early, Counters.synth,
    Counters.limited, Counters.dropped, Counters.failed, Counters.refused] → (f a).toNat ≤ (f b).toNat

theorem Counters.Le.refl (a : Counters) : a.Le a := fun _ _ => le_rfl

theorem Counters.Le.trans {a b c : Counters} (hab : a.Le b) (hbc : b.Le c) : a.Le c :=
  fun f hf => (hab f hf).trans (hbc f hf)

theorem Counters.le_iff (a b : Counters) : a.Le b ↔ a.frames.toNat ≤ b.frames.toNat ∧ a.auxFrames.toNat ≤ b.auxFrames.toNat
    ∧ a.faults.toNat ≤ b.faults.toNat ∧ a.early.toNat ≤ b.early.toNat ∧ a.synth.toNat ≤ b.synth.toNat
    ∧ a.limited.toNat ≤ b.limited.toNat ∧ a.dropped.toNat ≤ b.dropped.toNat ∧ a.failed.toNat ≤ b.failed.toNat
    ∧ a.refused.toNat ≤ b.refused.toNat := by
  simp [Counters.Le]

section
variable (a : Counters)

theorem Counters.le_bumpFrames : a.Le a.bumpFrames := by simp [Counters.le_iff, Counters.bumpFrames, le_satInc]
theorem Counters.le_bumpAuxFrames : a.Le a.bumpAuxFrames := by simp [Counters.le_iff, Counters.bumpAuxFrames, le_satInc]
theorem Counters.le_bumpFaults : a.Le a.bumpFaults := by simp [Counters.le_iff, Counters.bumpFaults, le_satInc]
theorem Counters.le_bumpEarly : a.Le a.bumpEarly := by simp [Counters.le_iff, Counters.bumpEarly, le_satInc]
theorem Counters.le_bumpSynth : a.Le a.bumpSynth := by simp [Counters.le_iff, Counters.bumpSynth, le_satInc]
theorem Counters.le_bumpLimited : a.Le a.bumpLimited := by simp [Counters.le_iff, Counters.bumpLimited, le_satInc]
theorem Counters.le_bumpDropped : a.Le a.bumpDropped := by simp [Counters.le_iff, Counters.bumpDropped, le_satInc]
theorem Counters.le_bumpFailed : a.Le a.bumpFailed := by simp [Counters.le_iff, Counters.bumpFailed, le_satInc]
theorem Counters.le_bumpRefused : a.Le a.bumpRefused := by simp [Counters.le_iff, Counters.bumpRefused, le_satInc]

theorem Counters.le_countOutput (cf : CondFlags) : a.Le (a.countOutput cf) := by
  unfold Counters.countOutput
  split
  · exact a.le_bumpLimited
  · exact .refl a

end

/-! ## What every move of a channel keeps -/

/-- A channel not in DISABLED decodes as its ENABLE found it, and EP follows P_last (one channel of `State.positionsFollow`). -/
def Channel.follows (descs : Vector Descriptor 16) (ch : Channel) : Prop :=
  ch.rt.state ≠ .disabled →
    scheduleShape ch.cfg.schedule descs = some (ch.rt.frameLen, ch.rt.width)
      ∧ ch.rt.stepPtr.val < ch.cfg.schedule.len
      ∧ ch.rt.width ≤ 48
      ∧ ∀ p, ch.rt.pLast = some p → p < 2 ^ ch.rt.width ∧ ch.rt.ep.toNat % 2 ^ ch.rt.width = p

theorem State.positionsFollow_iff (s : State) : s.positionsFollow ↔ ∀ c, (s.chan c).follows s.descs := Iff.rfl

/-- Channel `b` can come from channel `a` without a management command that configures, enables or clears it: its
configuration stands, it does not leave DISABLED, no counter decreases, and the rules of its runtime fields are kept. -/
structure Channel.Moves (descs : Vector Descriptor 16) (a b : Channel) : Prop where
  cfg : b.cfg = a.cfg
  disabled : a.rt.state = .disabled → b.rt.state = .disabled
  counters : a.ctr.Le b.ctr
  history : a.rt.history.length ≤ 8 → b.rt.history.length ≤ 8
  timing : a.timingAgrees → b.timingAgrees
  rate : a.rateBounded → b.rateBounded
  positions : a.follows descs → b.follows descs

section
variable {descs : Vector Descriptor 16} {a b c : Channel}

theorem Channel.Moves.refl (a : Channel) : a.Moves descs a := ⟨rfl, id, .refl _, id, id, id, id⟩

theorem Channel.Moves.trans (hab : a.Moves descs b) (hbc : b.Moves descs c) : a.Moves descs c where
  cfg := hbc.cfg.trans hab.cfg
  disabled := hbc.disabled ∘ hab.disabled
  counters := hab.counters.trans hbc.counters
  history := hbc.history ∘ hab.history
  timing := hbc.timing ∘ hab.timing
  rate := hbc.rate ∘ hab.rate
  positions := hbc.positions ∘ hab.positions

/-- The fields of a channel that no rule of its timing, its outputs or its positions speaks of. -/
def Runtime.SameBut (a b : Runtime) : Prop :=
  b = { a with
    stepPtr := b.stepPtr, staging := b.staging, marks := b.marks, auxStatus := b.auxStatus, statusValid := b.statusValid
    auxWord := b.auxWord, auxValid := b.auxValid, mark := b.mark, nextSeq := b.nextSeq, pend := b.pend }

/-- A change of those fields alone is a move, if the step pointer stays in the schedule. -/
theorem Channel.Moves.of_sameBut (hcfg : b.cfg = a.cfg) (hctr : a.ctr.Le b.ctr) (hrt : a.rt.SameBut b.rt)
    (hstep : a.follows descs → a.rt.state ≠ .disabled → b.rt.stepPtr.val < a.cfg.schedule.len) : a.Moves descs b := by
  have hstate : b.rt.state = a.rt.state := by rw [hrt]
  have hlen : b.rt.frameLen = a.rt.frameLen := by rw [hrt]
  have hwidth : b.rt.width = a.rt.width := by rw [hrt]
  have hpLast : b.rt.pLast = a.rt.pLast := by rw [hrt]
  have hep : b.rt.ep = a.rt.ep := by rw [hrt]
  have hvel : b.rt.vel = a.rt.vel := by rw [hrt]
  have hcond : b.rt.cond = a.rt.cond := by rw [hrt]
  have hhistory : b.rt.history = a.rt.history := by rw [hrt]
  have hdeadline : b.rt.deadline = a.rt.deadline := by rw [hrt]
  have hlast : b.rt.lastArrival = a.rt.lastArrival := by rw [hrt]
  have hmiss : b.rt.miss = a.rt.miss := by rw [hrt]
  refine ⟨hcfg, fun h => hstate.trans h, hctr, fun h => by rwa [hhistory], fun h => ?_, fun h => ?_, fun h hlive => ?_⟩
  · simpa only [Channel.timingAgrees, hcfg, hstate, hdeadline, hlast, hpLast, hmiss] using h
  · simpa only [Channel.rateBounded, hcfg, hstate, hvel, hcond] using h
  · rw [hstate] at hlive
    obtain ⟨hshape, -, hw, hp⟩ := h hlive
    rw [hcfg, hlen, hwidth, hpLast, hep]
    exact ⟨hshape, hstep h hlive, hw, hp⟩

/-- The same with the step pointer where it was. -/
theorem Channel.Moves.of_sameBut_stepPtr (hcfg : b.cfg = a.cfg) (hctr : a.ctr.Le b.ctr) (hrt : a.rt.SameBut b.rt)
    (hstep : b.rt.stepPtr = a.rt.stepPtr) : a.Moves descs b :=
  .of_sameBut hcfg hctr hrt fun h hlive => by
    rw [hstep]
    exact (h hlive).2.1

end

/-! ## Disabling and draining -/

section
variable {descs : Vector Descriptor 16}

/-- A channel that leaves the live states loses its deadline and nothing else (R14). -/
theorem Channel.Moves.disabledTo (a : Channel) (busy : Bool) : a.Moves descs (a.disabledTo busy) := by
  cases hm : a.rt.state.intakeMatched with
  | false =>
    rw [Channel.disabledTo_of_not_matched hm]
    exact .refl a
  | true =>
    rw [Channel.disabledTo_of_matched hm]
    have hlive := LifeCycle.ne_disabled_of_intakeMatched hm
    refine ⟨rfl, fun h => absurd h hlive, .refl _, id, fun h => ?_, fun h _ => h hlive, fun h _ => h hlive⟩
    obtain ⟨hlimit, -, -, -, hmiss⟩ := h
    refine ⟨hlimit, ?_, ?_, ?_, fun _ => hmiss hlive⟩ <;> cases busy <;> simp

/-- A DRAINING channel that becomes DISABLED (R16). -/
theorem Channel.Moves.drained {a : Channel} (hd : a.rt.state = .draining) :
    a.Moves descs { a with rt := { a.rt with state := .disabled } } := by
  refine ⟨rfl, fun _ => rfl, .refl _, id, fun h => ?_, fun _ h => absurd rfl h, fun _ h => absurd rfl h⟩
  obtain ⟨hlimit, hdeadline, -⟩ := h
  rw [hd] at hdeadline
  exact ⟨hlimit, by simpa using hdeadline, by simp, by simp, by simp⟩

/-! ## Deadlines (R77 to R79) -/

/-- A deadline below MISS_LIMIT in WAITING (R77). -/
theorem Channel.Moves.waitingMiss {a : Channel} {d : Word} (hstate : a.rt.state = .waiting)
    (hlt : a.rt.miss + 1 < a.cfg.missLimit) :
    a.Moves descs { a with rt := { a.rt with miss := a.rt.miss + 1, deadline := some d } } := by
  refine ⟨rfl, id, .refl _, id, fun h => ?_, id, id⟩
  obtain ⟨hlimit, -, hrun, -, -⟩ := h
  exact ⟨hlimit, by simp [hstate], hrun, fun _ => hlt, fun _ => hlt.le⟩

/-- A deadline at MISS_LIMIT (R77, R79). -/
theorem Channel.Moves.lost {a : Channel} (hstate : a.rt.state = .waiting ∨ a.rt.state = .running) :
    a.Moves descs a.lost := by
  have hlive : a.rt.state ≠ .disabled := by rcases hstate with h | h <;> rw [h] <;> decide
  refine ⟨rfl, fun h => absurd h hlive, .refl _, fun _ => Nat.zero_le _, fun h => ?_, fun h _ => h hlive, fun h _ => h hlive⟩
  obtain ⟨hlimit, -, -, hmiss, -⟩ := h
  exact ⟨hlimit, by simp [Channel.lost, Runtime.becomeLost], by simp [Channel.lost, Runtime.becomeLost],
    by simp [Channel.lost, Runtime.becomeLost], fun _ => hmiss hstate⟩

theorem add_sub_cancel_pos (x y : Pos) : x + y - x = y := by
  rw [BitVec.add_comm, BitVec.add_sub_cancel]

/-- In RATE mode a synthesized output keeps the change of OP or makes it 0 (R59). -/
theorem conditionSynth_vel {cfg : ChanConfig} (rt : Runtime) (h : cfg.filterMode = .rate) :
    (conditionSynth cfg rt).1.vel = rt.vel ∨ (conditionSynth cfg rt).1.vel = 0 := by
  have hvel : (conditionSynth cfg rt).1.vel = synthPosition cfg rt - rt.op := rfl
  rw [hvel, synthPosition]
  cases cfg.synthPolicy with
  | project => exact .inl (by simp only [h]; exact add_sub_cancel_pos _ _)
  | hold => exact .inr (by simp)

/-- A deadline below MISS_LIMIT in RUNNING: the synthesized output (R78). -/
theorem Channel.Moves.synthesized {a : Channel} {d : Word} (hstate : a.rt.state = .running)
    (hlt : a.rt.miss + 1 < a.cfg.missLimit) : a.Moves descs (a.synthesized d) := by
  have hlive : a.rt.state ≠ .disabled := by rw [hstate]; decide
  refine ⟨rfl, fun h => absurd h hlive, a.ctr.le_bumpSynth, id, fun h => ?_, fun h _ => ⟨fun hmode => ?_, (h hlive).2⟩, id⟩
  · obtain ⟨hlimit, -, hrun, -, -⟩ := h
    exact ⟨hlimit, iff_of_true rfl (.inr hstate), fun _ => hrun hstate, fun _ => hlt, fun _ => hlt.le⟩
  · rcases conditionSynth_vel { a.rt with miss := a.rt.miss + 1 } hmode with hvel | hvel
    · exact (congrArg (fun v : Pos => v.toInt.natAbs ≤ a.cfg.limit) hvel).mpr ((h hlive).1 hmode)
    · exact (congrArg (fun v : Pos => v.toInt.natAbs ≤ a.cfg.limit) hvel).mpr (Nat.zero_le _)

end

/-! ## Accepted samples (R63) -/

/-- Kept in 48 bits, a number does not grow. -/
theorem natAbs_toInt_ofInt_le (x : Int) : (BitVec.ofInt 48 x).toInt.natAbs ≤ x.natAbs := by
  rw [BitVec.toInt_ofInt]
  have hle := Int.bmod_le (x := x) (m := 2 ^ 48) (by decide)
  have hge := Int.le_bmod (x := x) (m := 2 ^ 48) (by decide)
  by_cases hsmall : x.natAbs < 2 ^ 47
  · rw [Int.bmod_eq_of_le (by omega) (by omega)]
  · omega

theorem natAbs_clampTo_le (x : Int) (l : Nat) : (clampTo x l).natAbs ≤ l := by
  unfold clampTo
  omega

/-- In RATE mode the output of a sample changes OP by LIMIT at most (R54), if the output before it did. -/
theorem conditionSample_vel {cfg : ChanConfig} {found : LifeCycle} {rt : Runtime} (hmode : cfg.filterMode = .rate)
    (hprime : rt.cond ≠ .prime) (hvel : rt.vel.toInt.natAbs ≤ cfg.limit) :
    (conditionSample cfg found rt).1.vel.toInt.natAbs ≤ cfg.limit := by
  by_cases hfound : found = .running
  · have horigin : limitOrigin cfg.filterMode rt = rt.op := by rw [hmode]; rfl
    rw [hfound, show conditionSample cfg .running rt = conditionReal cfg rt from rfl,
      conditionReal_limited (by rw [hmode]; decide) hprime]
    have hslewed : (slewOutput cfg rt - rt.op).toInt.natAbs ≤ cfg.limit := by
      rw [slewOutput, horigin, add_sub_cancel_pos]
      exact (natAbs_toInt_ofInt_le _).trans (natAbs_clampTo_le _ _)
    by_cases hlimit : (rt.ep - limitOrigin cfg.filterMode rt).toInt.natAbs ≤ cfg.limit
    · rw [conditionLimited_within hlimit]
      rwa [horigin] at hlimit
    by_cases hslew : rt.cond = .slew
    · rw [conditionLimited_slewing hlimit hslew]
      exact hslewed
    by_cases hviol : rt.viol + 1 < cfg.persist
    · rw [conditionLimited_holdover hlimit hslew hviol, hmode]
      exact (congrArg (fun v : Pos => v.toInt.natAbs ≤ cfg.limit) (add_sub_cancel_pos rt.op rt.vel)).mpr hvel
    · rw [conditionLimited_slewBegins hlimit hslew hviol]
      exact hslewed
  · cases found with
    | running => exact absurd rfl hfound
    | _ => exact Nat.zero_le _

/-- Real outputs leave PRIME, and entry outputs enter it in CURVE mode alone (R51, R52). -/
theorem conditionSample_cond {cfg : ChanConfig} {found : LifeCycle} {rt : Runtime}
    (h : (conditionSample cfg found rt).1.cond = .prime) : cfg.filterMode = .curve := by
  by_cases hfound : found = .running
  · obtain ⟨op, st, viol, f, k, hst, hreal⟩ := conditionReal_outputs cfg rt
    rw [hfound, show conditionSample cfg .running rt = conditionReal cfg rt from rfl, hreal] at h
    exact absurd h hst
  · by_contra hmode
    cases found with
    | running => exact absurd rfl hfound
    | _ =>
      have h' : (conditionEntry cfg rt).1.cond = .prime := h
      simp [conditionEntry, hmode] at h'

/-- The history after an interval judged keeps its capacity (R70). -/
theorem Runtime.judgeInterval_history_length {cfg : ChanConfig} {rt : Runtime} {stamp : Word} (h : rt.history.length ≤ 8) :
    (rt.judgeInterval cfg stamp).history.length ≤ 8 := by
  unfold Runtime.judgeInterval
  split
  · split
    · exact (length_pushInterval _ _).trans_le (min_le_left _ _)
    · exact h
  · exact h

/-- What an arrival at a live channel sets (R73 to R75). -/
theorem takeArrival_frame {c : ChanId} {cfg : ChanConfig} {rt : Runtime} {stamp : Word}
    (h : rt.state.intakeMatched = true) : ∃ history base deadline pend,
      (takeArrival c cfg rt.state rt stamp).1 = { rt with
        state := .running, lastArrival := some stamp, miss := 0, mark := .clean, deadline := some deadline
        history := history, base := base, pend := pend }
      ∧ (rt.history.length ≤ 8 → history.length ≤ 8) := by
  cases hstate : rt.state with
  | waiting => exact ⟨rt.history, rt.base, _, rt.pend, rfl, id⟩
  | lost => exact ⟨rt.history, rt.base, _, _, rfl, id⟩
  | running =>
    refine ⟨(rt.judgeInterval cfg stamp).history, (rt.judgeInterval cfg stamp).base,
      after stamp (sixteenths (rt.judgeInterval cfg stamp).base cfg.deadlineK),
      if rt.miss = 0 then rt.pend else { rt.pend with afterSynth := true }, ?_, rt.judgeInterval_history_length⟩
    simp only [takeArrival, Runtime.arriveRunning]
    rw [Runtime.judgeInterval_frame]
    split <;> simp only [Runtime.armFrom, hstate]
  | disabled => rw [hstate] at h; exact absurd h (by decide)
  | draining => rw [hstate] at h; exact absurd h (by decide)

/-- A live channel that has taken a sample is RUNNING. -/
theorem Channel.takeSample_state {c : ChanId} {ch : Channel} {x : Sample} (hlive : ch.rt.state.intakeMatched = true) :
    (ch.takeSample c x).1.rt.state = .running := by
  have hstate : (conditionSample ch.cfg ch.rt.state (ch.rt.takePosition x)).1.state = ch.rt.state :=
    (conditionSample_state ..).trans (Runtime.takePosition_state ..)
  have harrived := takeArrival_state (c := c) (cfg := ch.cfg) (stamp := x.stamp) (by rw [hstate]; exact hlive)
  rwa [hstate] at harrived

/-- A sample taken by a live channel as a move before it left the channel, its frame position within the width (R63). -/
theorem Channel.Moves.takeSample {descs : Vector Descriptor 16} {a₀ a : Channel} (c : ChanId) {x : Sample}
    (h₀ : a₀.Moves descs a) (hlive : a.rt.state.intakeMatched = true)
    (hfit : a₀.follows descs → 1 ≤ a.rt.width ∧ x.framePosition < 2 ^ a.rt.width) :
    a₀.Moves descs (a.takeSample c x).1 := by
  have hne := LifeCycle.ne_disabled_of_intakeMatched hlive
  have hpos := a.rt.takePosition_frame x
  have hout := conditionSample_frame a.cfg a.rt.state (a.rt.takePosition x)
  have houtState : (conditionSample a.cfg a.rt.state (a.rt.takePosition x)).1.state = a.rt.state := by rw [hout, hpos]
  obtain ⟨history, base, deadline, pend, harr, hhistory⟩ := takeArrival_frame (c := c) (cfg := a.cfg) (stamp := x.stamp)
    (rt := (conditionSample a.cfg a.rt.state (a.rt.takePosition x)).1) (by rw [houtState]; exact hlive)
  rw [houtState] at harr
  have hrt : (a.takeSample c x).1.rt = _ := harr
  have hcfg : (a.takeSample c x).1.cfg = a.cfg := rfl
  refine ⟨h₀.cfg, fun h => absurd (h₀.disabled h) hne, h₀.counters.trans (a.ctr.le_countOutput _), fun h => ?_, fun h => ?_,
    fun h _ => ?_, fun h _ => ?_⟩
  · rw [hrt]
    refine hhistory ?_
    rw [hout, hpos]
    exact h₀.history h
  · obtain ⟨hlimit, -⟩ := h₀.timing h
    have hlast : (a.takeSample c x).1.rt.pLast = some x.framePosition := by rw [hrt, hout, hpos]
    unfold Channel.timingAgrees
    rw [hcfg, hlast, hrt]
    exact ⟨hlimit, iff_of_true rfl (.inr rfl), fun _ => ⟨rfl, rfl⟩, fun _ => hlimit, fun _ => Nat.zero_le _⟩
  · rw [hcfg, hrt]
    obtain ⟨hvel, hcond⟩ := h₀.rate h hne
    have hposVel : (a.rt.takePosition x).vel = a.rt.vel := by rw [hpos]
    have hposCond : (a.rt.takePosition x).cond = a.rt.cond := by rw [hpos]
    refine ⟨fun hmode => conditionSample_vel hmode (fun hprime => ?_) (by rw [hposVel]; exact hvel hmode),
      conditionSample_cond⟩
    have hcurve := hcond (hposCond ▸ hprime)
    rw [hmode] at hcurve
    exact absurd hcurve (by decide)
  · obtain ⟨hw1, hp⟩ := hfit h
    obtain ⟨hshape, hstep, hw, hlast⟩ := h₀.positions h hne
    have hmod := Runtime.takePosition_mod hw1 hw hp fun q hq => (hlast q hq).2
    have hep : (a.takeSample c x).1.rt.ep = (a.rt.takePosition x).ep := by rw [hrt, hout]
    have hpLast : (a.takeSample c x).1.rt.pLast = some x.framePosition := by rw [hrt, hout, hpos]
    have hlen : (a.takeSample c x).1.rt.frameLen = a.rt.frameLen := by rw [hrt, hout, hpos]
    have hwidth : (a.takeSample c x).1.rt.width = a.rt.width := by rw [hrt, hout, hpos]
    have hptr : (a.takeSample c x).1.rt.stepPtr = a.rt.stepPtr := by rw [hrt, hout, hpos]
    rw [hcfg, hep, hpLast, hlen, hwidth, hptr]
    exact ⟨hshape, hstep, hw, fun p hp' => by rw [← Option.some.inj hp']; exact ⟨hp, hmod⟩⟩

/-! ## Delivered frames fit their channel (R38, R44, R47) -/

/-- A sample decoded by a valid descriptor with a POSITION field fits the descriptor's position width. -/
theorem sampleOf_fits {d : Descriptor} (words : Vector Word 4) (stamp : Word) (hvalid : d.valid = true)
    (hpos : (d.field .position).isSome = true) :
    1 ≤ d.positionWidth ∧ (sampleOf d words stamp).framePosition < 2 ^ d.positionWidth := by
  obtain ⟨f, hf⟩ := Option.isSome_iff_exists.1 hpos
  obtain ⟨-, k, hk⟩ := d.exists_slot_of_field hf
  obtain ⟨-, hwidth, -⟩ := (f.fits_iff _).1 ((d.valid_iff.1 hvalid).1 k f hk)
  have hposition : decodeField words f < 2 ^ f.width := decodeField_lt words f
  cases ht : d.field .turns with
  | none =>
    simp only [Descriptor.positionWidth, Descriptor.fieldWidth, hf, ht, sampleOf, Sample.framePosition, Option.map_none]
    exact ⟨by omega, by simpa using hposition⟩
  | some g =>
    have hturns : decodeField words g < 2 ^ g.width := decodeField_lt words g
    simp only [Descriptor.positionWidth, Descriptor.fieldWidth, hf, ht, sampleOf, Sample.framePosition, Option.map_some]
    refine ⟨by omega, ?_⟩
    calc decodeField words g * 2 ^ f.width + decodeField words f
        < decodeField words g * 2 ^ f.width + 2 ^ f.width := Nat.add_lt_add_left hposition _
      _ = (decodeField words g + 1) * 2 ^ f.width := by ring
      _ ≤ 2 ^ g.width * 2 ^ f.width := Nat.mul_le_mul_right _ hturns
      _ = 2 ^ (f.width + g.width) := by ring

/-- The step after one of the schedule is one of the schedule (R41). -/
theorem nextStep_lt {sch : Schedule} {k : Fin 4} (h : k.val < sch.len) : (nextStep sch k).val < sch.len := by
  unfold nextStep
  split
  · exact Nat.zero_lt_of_lt h
  · next hne =>
    rw [Fin.val_add]
    exact (Nat.mod_le _ _).trans_lt (by simp only [Fin.val_one]; omega)

/-- The resolved step is the current one or another of the schedule (R33, R34). -/
theorem resolveStep_lt {cfg : ChanConfig} {descs : Vector Descriptor 16} {words : Vector Word 4} {cur k : Fin 4} {re : Bool}
    (h : resolveStep cfg descs words cur = some (k, re)) (hcur : cur.val < cfg.schedule.len) : k.val < cfg.schedule.len := by
  unfold resolveStep at h
  split at h
  · rw [Option.some.injEq, Prod.mk.injEq] at h
    exact h.1 ▸ hcur
  · rw [Option.some.injEq, Prod.mk.injEq] at h
    exact h.1 ▸ hcur
  · obtain ⟨j, hj, he⟩ := Option.map_eq_some_iff.1 h
    obtain ⟨⟨hactive, -, -⟩, -⟩ := (resyncSearch_eq_some_iff cfg descs words cur j).1 hj
    rw [Prod.mk.injEq] at he
    exact he.1 ▸ hactive

/-! The fields a write, a check of its frame and a record leave as they were (R28 to R42, R88). -/

theorem stageWrite_sameBut (cfg : ChanConfig) (rt : Runtime) (r : Request) : rt.SameBut (stageWrite cfg rt r) := rfl

theorem Runtime.SameBut.trans {a b c : Runtime} (hab : a.SameBut b) (hbc : b.SameBut c) : a.SameBut c := by
  unfold Runtime.SameBut at *
  rw [hab] at hbc
  exact hbc

theorem Runtime.clearMarks_sameBut (rt : Runtime) : rt.SameBut rt.clearMarks := rfl

theorem Runtime.flagResync_sameBut (rt : Runtime) (re : Bool) : rt.SameBut (rt.flagResync re) := rfl

theorem Runtime.faultAt_sameBut (rt : Runtime) (kind : StepKind) : rt.SameBut (rt.faultAt kind) := by
  cases kind <;> rfl

theorem Runtime.faultAt_stepPtr (rt : Runtime) (kind : StepKind) : (rt.faultAt kind).stepPtr = rt.stepPtr := by
  cases kind <;> rfl

theorem Runtime.takeAux_sameBut (rt : Runtime) (d : Descriptor) (words : Vector Word 4) : rt.SameBut (rt.takeAux d words) := by
  unfold Runtime.takeAux
  cases d.field .status <;> cases d.field .auxdata <;> rfl

theorem Runtime.stepPtr_sameBut (rt : Runtime) (k : Fin 4) : rt.SameBut { rt with stepPtr := k } := rfl

theorem Runtime.afterRecord_sameBut (rt : Runtime) : rt.SameBut rt.afterRecord := rfl

end Sys2Proof.Machine
end

section
/-! PROOFS. The moves of the part: what any command but a pin reset is made of, in steps that each keep the part's rules. -/

namespace Sys2Proof.Machine

/-! ## States alike but for the port, the Event Unit and the model's traces -/

/-- Two states with the same channels, descriptors, queues, Tracking Table and time. The SPI frame, the Event Unit, the global
items but RESP_LIMIT, and the counters of the part may differ; the Event FIFO stays within its capacity. -/
structure State.Alike (s t : State) : Prop where
  tick : t.tick = s.tick
  chans : t.chans = s.chans
  descs : t.descs = s.descs
  intake : t.intake = s.intake
  forward : t.forward = s.forward
  hold : t.hold = s.hold
  records : t.records = s.records
  outstanding : t.outstanding = s.outstanding
  table : t.table = s.table
  sendOrder : t.sendOrder = s.sendOrder
  offeredInit : t.offeredInit = s.offeredInit
  respLimit : t.respLimit = s.respLimit
  resetting : t.resetting = s.resetting
  usOut : t.usOut = s.usOut
  events : s.events.length ≤ 32 → t.events.length ≤ 32

theorem State.Alike.refl (s : State) : s.Alike s := ⟨rfl, rfl, rfl, rfl, rfl, rfl, rfl, rfl, rfl, rfl, rfl, rfl, rfl, rfl, id⟩

theorem State.Alike.chan {s t : State} (h : s.Alike t) (c : ChanId) : t.chan c = s.chan c :=
  congrArg (fun chans : Vector Channel 12 => chans[c]) h.chans

theorem State.Alike.entry {s t : State} (h : s.Alike t) (e : EntryId) : t.entry e = s.entry e :=
  congrArg (fun table : Vector Entry 24 => table[e]) h.table

theorem State.alike_raise (s : State) (qs : List (List RawEvent)) : s.Alike (s.raise qs) := by
  exact ⟨s.raise_tick qs, s.raise_chans qs, s.raise_descs qs, s.raise_intake qs, s.raise_forward qs, s.raise_hold qs,
    s.raise_records qs, s.raise_outstanding qs, s.raise_table qs, s.raise_sendOrder qs, s.raise_offeredInit qs,
    s.raise_respLimit qs, s.raise_resetting qs, s.raise_usOut qs, s.raise_events_length qs⟩

theorem State.alike_logAll (s : State) (es : List RawEvent) : s.Alike (s.logAll es) :=
  State.raise_single s es ▸ s.alike_raise [es]

theorem State.alike_answer (s : State) (cmd : Cmd) (st : Status) (data : List Byte) : s.Alike (s.answer cmd st data) :=
  ⟨rfl, rfl, rfl, rfl, rfl, rfl, rfl, rfl, rfl, rfl, rfl, rfl, rfl, rfl, id⟩

/-! ## The moves -/

/-- A life-cycle state stays, or stays among the live ones. -/
def LifeCycle.Kept (a b : LifeCycle) : Prop := b = a ∨ (a.intakeMatched = true ∧ b.intakeMatched = true)

/-- One move of the part that leaves the Tracking Table: a channel's own, or one of a request or a record from one place to the
next. -/
inductive Move : State → State → Prop
  /-- the port, the Event Unit and the model's traces -/
  | alike {s t : State} (h : s.Alike t) : Move s t
  /-- a channel by its own rules -/
  | channel {s : State} (c : ChanId) (ch : Channel) (h : (s.chan c).Moves s.descs ch)
      (hkept : (s.chan c).rt.state.Kept ch.rt.state) : Move s (s.setChan c ch)
  /-- a record joins the Record Queue (R91) -/
  | queues {s : State} (r : Record) (hroom : s.records.length < 8)
      (hlive : (s.chan r.chan).rt.state.intakeMatched = true)
      (hslot : ∃ n, r.slot = n % (s.chan r.chan).cfg.outputDepth) : Move s { s with records := s.records ++ [r] }
  /-- the head of the Intake Queue is answered by the part (R109 to R113) -/
  | answers {s : State} (h : IntakeEntry) (rest : List IntakeEntry) (r : UpResponse) (hi : s.intake = h :: rest)
      (hinit : r.init = h.req.init) (htag : r.tag = h.req.tag) : Move s ({ s with intake := rest }.respond r)
  /-- the head joins the Forward Queue (R113 to R115) -/
  | relays {s : State} (h : IntakeEntry) (rest : List IntakeEntry) (hi : s.intake = h :: rest)
      (hroom : s.forward.length < 8) : Move s ({ s with intake := rest }.joinForward h.req)
  /-- the head joins the Hold List (R114) -/
  | holds {s : State} (h : IntakeEntry) (rest : List IntakeEntry) (c : ChanId) (slot : Nat) (hi : s.intake = h :: rest)
      (hroom : s.hold.length < 8) (hstate : (s.chan c).rt.state ≠ .disabled) (hres : s.reserved c slot = true) :
      Move s { s with intake := rest, hold := s.hold ++ [⟨h.req, c, slot, .held⟩] }
  /-- a RELEASED read joins the Forward Queue (R120) -/
  | readMoves {s : State} (before after' : List HoldEntry) (h : HoldEntry) (hsplit : s.hold = before ++ h :: after')
      (hroom : s.forward.length < 8) : Move s ({ s with hold := before ++ after' }.joinForward h.req)
  /-- the outcome of a half is noted (R97) -/
  | notes {s : State} (before after' : List OutRecord) (o o' : OutRecord) (hsplit : s.outstanding = before ++ o :: after')
      (hchan : o'.chan = o.chan) (hslot : o'.slot = o.slot) : Move s { s with outstanding := before ++ o' :: after' }
  /-- a record settles, and its hold on the reservation ends (R97, R101) -/
  | settles {s : State} (before after' : List OutRecord) (o : OutRecord) (hsplit : s.outstanding = before ++ o :: after') :
      Move s (State.endReservation { s with outstanding := before ++ after' } o.chan o.slot)
  /-- the drain test of a channel (R16) -/
  | drains {s : State} (c : ChanId) : Move s (s.drainTest c).1
  /-- channels are disabled (R14, R166) -/
  | disables {s : State} (D : ChanId → Bool) : Move s (s.disableAll D)
  /-- the part is RESETTING, no channel live (R166) -/
  | resets {s : State} (hquiet : ∀ c, (s.chan c).rt.state.intakeMatched = false) : Move s { s with resetting := true }

/-- One move that changes the Tracking Table: an entry taken, issued, orphaned or freed. -/
inductive TableMove : State → State → Prop
  /-- a grant to the forward claim (R127) -/
  | grantsForward {s : State} (r : Request) (rest : List Request) (e : EntryId) (w : Claimant) (hf : s.forward = r :: rest)
      (he : (s.entry e).tx = none) :
      TableMove s { ({ s with forward := rest }.take e r.transaction).joinSend [e] with lastWinner := w }
  /-- a grant to the record claim (R127, R96) -/
  | grantsRecord {s : State} (before after' : List Record) (r : Record) (a b : EntryId) (w : Claimant)
      (hsplit : s.records = before ++ r :: after') (heligible : s.eligible r = true) (hab : a ≠ b)
      (ha : (s.entry a).tx = none) (hb : (s.entry b).tx = none) :
      TableMove s { (State.take (State.take { s with
          records := before ++ after', outstanding := s.outstanding ++ [⟨r.chan, r.seq, r.slot, .awaiting, .awaiting⟩] }
        a (r.transaction (s.recordStart r) .first)) b (r.transaction (s.recordStart r) .second)).joinSend [a, b] with
        lastWinner := w }
  /-- the oldest GRANTED request is accepted (R130) -/
  | issues {s : State} (e : EntryId) (rest : List EntryId) (t : Transaction) (stamp : Word) (limit : Nat)
      (dq : List Request) (hs : s.sendOrder = e :: rest) (ht : (s.entry e).tx = some t) :
      TableMove s { s.take e { t with phase := .issued stamp limit } with
        sendOrder := rest, offeredInit := if rest.isEmpty then none else some s.partInitiator, dqOut := dq }
  /-- the request of an ISSUED entry is answered and the entry freed (R133) -/
  | freesForward {s : State} (e : EntryId) (t : Transaction) (r : UpResponse) (ht : (s.entry e).tx = some t)
      (hissued : ∃ stamp limit, t.phase = .issued stamp limit) (hlive : t.orphan = false)
      (horigin : t.origin = .forward r.init r.tag) : TableMove s ((s.freeEntry e).respond r)
  /-- an ISSUED entry of a record, or an orphan, is freed (R134, R135, R137) -/
  | frees {s : State} (e : EntryId) (t : Transaction) (ht : (s.entry e).tx = some t)
      (hissued : ∃ stamp limit, t.phase = .issued stamp limit) (hno : t.orphan = true ∨ t.servesRecord = true) :
      TableMove s (s.freeEntry e)
  /-- the request of an ISSUED entry is answered and the entry orphaned (R136) -/
  | orphansForward {s : State} (e : EntryId) (t : Transaction) (r : UpResponse) (ht : (s.entry e).tx = some t)
      (hissued : ∃ stamp limit, t.phase = .issued stamp limit) (hlive : t.orphan = false)
      (horigin : t.origin = .forward r.init r.tag) : TableMove s ((s.take e { t with orphan := true }).respond r)
  /-- an ISSUED entry of a record is orphaned (R136) -/
  | orphans {s : State} (e : EntryId) (t : Transaction) (ht : (s.entry e).tx = some t)
      (hissued : ∃ stamp limit, t.phase = .issued stamp limit) (hrecord : t.servesRecord = true) :
      TableMove s (s.take e { t with orphan := true })

/-- A row of moves. -/
abbrev Moved : State → State → Prop := Relation.ReflTransGen Move

theorem State.Alike.moved {s t : State} (h : s.Alike t) : Moved s t := .single (.alike h)

/-! ## An intake write in moves (R28 to R42, R63) -/

/-- The channel after its record joins, in moves (R88 to R92). -/
theorem State.moved_generate {s : State} {c : ChanId} (hlive : (s.chan c).rt.state.intakeMatched = true) {kind : RecordKind}
    {cf : CondFlags} {np : Bool} {time : Word} : Moved s (s.generate c kind cf np time).1 := by
  have hmoves (ctr : Counters) (hctr : (s.chan c).ctr.Le ctr) :
      Move s (s.setChan c ⟨(s.chan c).cfg, (s.chan c).rt.afterRecord, ctr⟩) :=
    .channel c _ (.of_sameBut_stepPtr rfl hctr (Runtime.afterRecord_sameBut _) rfl) (.inl rfl)
  rcases s.generate_spec c kind cf np time with ⟨hroom, hg⟩ | ⟨-, hg⟩ <;> rw [hg]
  · refine .tail (.single (hmoves _ (.refl _))) ?_
    refine .queues (s := s.setChan c _) (buildRecord c (s.chan c) kind cf np time) hroom ?_ ⟨(s.chan c).rt.nextSeq.toNat, ?_⟩
    · simpa [buildRecord, Runtime.afterRecord] using hlive
    · simp [buildRecord]
  · exact .single (hmoves _ (Counters.le_bumpDropped _))

/-- A channel replaced by a move of its own that keeps it live, and the record it then generates, with the events. -/
theorem State.moved_channel_generate {s : State} {c : ChanId} {ch : Channel} (h : (s.chan c).Moves s.descs ch)
    (hlive : (s.chan c).rt.state.intakeMatched = true) (hlive' : ch.rt.state.intakeMatched = true) {kind : RecordKind}
    {cf : CondFlags} {np : Bool} {time : Word} (qs : List (List RawEvent)) :
    Moved s (((s.setChan c ch).generate c kind cf np time).1.raise qs) := by
  refine .trans (.trans (.single (.channel c ch h (.inr ⟨hlive, hlive'⟩))) (State.moved_generate ?_))
    (State.alike_raise _ qs).moved
  rw [State.chan_setChan_self]
  exact hlive'

/-- A channel changed in the fields of `Runtime.SameBut`, with the events. -/
theorem State.moved_channel_logAll {s : State} {c : ChanId} {ch : Channel} (h : (s.chan c).Moves s.descs ch)
    (hstate : ch.rt.state = (s.chan c).rt.state) (es : List RawEvent) : Moved s ((s.setChan c ch).logAll es) :=
  .tail (.single (.channel c ch h (.inl hstate))) (.alike (State.alike_logAll _ es))

theorem Runtime.SameBut.width {a b : Runtime} (h : a.SameBut b) : b.width = a.width := by rw [h]

theorem Runtime.SameBut.state {a b : Runtime} (h : a.SameBut b) : b.state = a.state := by rw [h]

/-- A sample taken by a live channel, once its frame has been delivered, with its record and the events (R63). -/
theorem State.moved_takeSample {s : State} {c : ChanId} {rt : Runtime} {ctr : Counters} {x : Sample}
    (hlive : (s.chan c).rt.state.intakeMatched = true) (hrt : (s.chan c).rt.SameBut rt) (hctr : (s.chan c).ctr.Le ctr)
    (hstep : (s.chan c).follows s.descs → rt.stepPtr.val < (s.chan c).cfg.schedule.len)
    (hfit : (s.chan c).follows s.descs → 1 ≤ (s.chan c).rt.width ∧ x.framePosition < 2 ^ (s.chan c).rt.width)
    (es : List RawEvent) : Moved s ((s.setChan c ⟨(s.chan c).cfg, rt, ctr⟩).takeSample c x es) := by
  have hdelivered : (s.chan c).Moves s.descs ⟨(s.chan c).cfg, rt, ctr⟩ := .of_sameBut rfl hctr hrt fun h _ => hstep h
  have hlive' : (Channel.mk (s.chan c).cfg rt ctr).rt.state.intakeMatched = true := hrt.state ▸ hlive
  have hfit' (h : (s.chan c).follows s.descs) : 1 ≤ rt.width ∧ x.framePosition < 2 ^ rt.width := hrt.width ▸ hfit h
  have hrunning : (Channel.takeSample c ⟨(s.chan c).cfg, rt, ctr⟩ x).1.rt.state.intakeMatched = true := by
    rw [Channel.takeSample_state hlive']
    rfl
  rw [State.takeSample_setChan]
  exact State.moved_channel_generate (.takeSample c hdelivered hlive' hfit') hlive hrunning _

/-- An intake write to a live channel is a row of moves. -/
theorem State.moved_intakeWrite {s : State} {c : ChanId} (hlive : (s.chan c).rt.state.intakeMatched = true) (r : Request)
    (stamp : Word) : Moved s (s.intakeWrite c r stamp) := by
  have hstaged : (s.chan c).rt.SameBut (s.staged c r) := stageWrite_sameBut _ _ r
  have hcleared : (s.chan c).rt.SameBut (s.staged c r).clearMarks := hstaged.trans (Runtime.clearMarks_sameBut _)
  have hptr : (s.staged c r).stepPtr = (s.chan c).rt.stepPtr := rfl
  have hne := LifeCycle.ne_disabled_of_intakeMatched hlive
  -- a commit that hands on no sample
  have hends {x : Runtime} {ctr : Counters} {es : List RawEvent} (hx : (s.chan c).rt.SameBut x)
      (hctr : (s.chan c).ctr.Le ctr)
      (hstep : (s.chan c).rt.stepPtr.val < (s.chan c).cfg.schedule.len → x.stepPtr.val < (s.chan c).cfg.schedule.len) :
      Moved s ((s.setChan c ⟨(s.chan c).cfg, x, ctr⟩).logAll es) :=
    State.moved_channel_logAll (ch := ⟨(s.chan c).cfg, x, ctr⟩)
      (.of_sameBut rfl hctr hx fun h _ => hstep (h hne).2.1) hx.state es
  cases hcommit : commits (s.chan c).cfg (s.chan c).rt r with
  | false =>
    rw [State.intakeWrite_staged hcommit]
    exact .single (.channel c _ (.of_sameBut_stepPtr rfl (.refl _) hstaged rfl) (.inl rfl))
  | true =>
    cases hm : Machine.complete (s.staged c r) with
    | false =>
      rw [State.intakeWrite_incomplete hcommit hm]
      exact hends ((hcleared.trans (Runtime.faultAt_sameBut _ _)).trans (Runtime.stepPtr_sameBut _ _))
        (Counters.le_bumpFaults _) nextStep_lt
    | true =>
      cases hres : resolveStep (s.chan c).cfg s.descs (s.staged c r).staging (s.staged c r).stepPtr with
      | none =>
        rw [State.intakeWrite_mismatch hcommit hm hres]
        refine hends (hcleared.trans (Runtime.faultAt_sameBut _ _)) (Counters.le_bumpFaults _) fun h => ?_
        rw [Runtime.faultAt_stepPtr]
        exact h
      | some kre =>
        obtain ⟨k, re⟩ := kre
        have hk (h : (s.chan c).rt.stepPtr.val < (s.chan c).cfg.schedule.len) :
            (nextStep (s.chan c).cfg.schedule k).val < (s.chan c).cfg.schedule.len :=
          nextStep_lt (resolveStep_lt hres h)
        have hflagged := hcleared.trans (Runtime.flagResync_sameBut _ re)
        cases he : isEarly (s.chan c).cfg (s.staged c r) ((s.chan c).cfg.schedule.steps[k]).kind stamp with
        | true =>
          rw [State.intakeWrite_early hcommit hm hres he]
          exact hends hflagged (Counters.le_bumpEarly _) id
        | false =>
          cases hf : (stepDesc (s.chan c).cfg s.descs k).faulted (s.staged c r).staging with
          | true =>
            rw [State.intakeWrite_faulted hcommit hm hres he hf]
            exact hends ((hflagged.trans (Runtime.faultAt_sameBut _ _)).trans (Runtime.stepPtr_sameBut _ _))
              (Counters.le_bumpFaults _) hk
          | false =>
            have hdelivered := (hflagged.trans (Runtime.takeAux_sameBut _ (stepDesc (s.chan c).cfg s.descs k)
              (s.staged c r).staging)).trans (Runtime.stepPtr_sameBut _ (nextStep (s.chan c).cfg.schedule k))
            cases hkind : ((s.chan c).cfg.schedule.steps[k]).kind with
            | aux =>
              rw [State.intakeWrite_aux hcommit hm hres he hf hkind]
              exact hends hdelivered (Counters.le_bumpAuxFrames _) hk
            | position =>
              rw [State.intakeWrite_position hcommit hm hres he hf hkind]
              refine State.moved_takeSample hlive hdelivered (Counters.le_bumpFrames _) (fun h => hk (h hne).2.1) (fun h => ?_) _
              obtain ⟨hshape, hstep, -⟩ := h hne
              obtain ⟨hvalid, -, -, hpos, hwidth⟩ := (scheduleShape_eq_some_iff _ _ _ _).1 hshape
              have hactive := resolveStep_lt hres hstep
              have hfits := sampleOf_fits (s.staged c r).staging stamp (hvalid k hactive) (hpos k hactive hkind)
              rw [hwidth k hactive hkind] at hfits
              exact hfits

end Sys2Proof.Machine
end

section
/-! PROOFS. Every command but a pin reset, by what it does to the part: a row of moves, a move of the Tracking Table and
the moves it calls for, or one singular effect; the rules of the management commands by these. -/

namespace Sys2Proof.Machine

theorem State.Alike.trans {s t u : State} (hst : s.Alike t) (htu : t.Alike u) : s.Alike u where
  tick := htu.tick.trans hst.tick
  chans := htu.chans.trans hst.chans
  descs := htu.descs.trans hst.descs
  intake := htu.intake.trans hst.intake
  forward := htu.forward.trans hst.forward
  hold := htu.hold.trans hst.hold
  records := htu.records.trans hst.records
  outstanding := htu.outstanding.trans hst.outstanding
  table := htu.table.trans hst.table
  sendOrder := htu.sendOrder.trans hst.sendOrder
  offeredInit := htu.offeredInit.trans hst.offeredInit
  respLimit := htu.respLimit.trans hst.respLimit
  resetting := htu.resetting.trans hst.resetting
  usOut := htu.usOut.trans hst.usOut
  events := htu.events ∘ hst.events

theorem State.Alike.respond {s t : State} (h : s.Alike t) (r : UpResponse) : (s.respond r).Alike (t.respond r) :=
  ⟨h.tick, h.chans, h.descs, h.intake, h.forward, h.hold, h.records, h.outstanding, h.table, h.sendOrder, h.offeredInit,
    h.respLimit, h.resetting, congrArg (· ++ [r]) h.usOut, h.events⟩

/-! ## Singular effects -/

/-- The command takes ENABLE_CHANNEL or CLEAR_COUNTERS, whose code is `code`, for the channel: its row, or the byte that
completes it (log entry 12). -/
def TakesFor (i : Instr) (s : State) (row : Byte → Instr) (code : Byte) (c : ChanId) : Prop :=
  i = row (BitVec.ofNat 8 c.val) ∨ (i = .spiByte (BitVec.ofNat 8 c.val) ∧ s.mgmt.cmd = code)

/-- What a command does that is no row of moves: time, the items, the enabling and clearing of a channel, the completion of a
soft reset, and the taking of a request. -/
inductive Singular (i : Instr) (s : State) : State → Prop
  /-- TICK (R64) -/
  | ticks (hi : i = .tick) : Singular i s { s with tick := s.tick + 1 }
  /-- RESP_LIMIT set (R131) -/
  | respLimit (n : Nat) (hn : n ∈ respLimits) : Singular i s { s with respLimit := n }
  /-- a descriptor item set (R24) -/
  | descriptor (d : DescId) (n : Nat) (v : Word) (x : Descriptor) (hlock : s.descLocked d = false)
      (hset : (s.descs[d]).setItem n v = some x) : Singular i s { s with descs := s.descs.set d x }
  /-- a channel item set (R2) -/
  | configures (c : ChanId) (n : Nat) (v : Word) (cfg : ChanConfig) (hstate : (s.chan c).rt.state = .disabled)
      (hset : (s.chan c).cfg.setItem n v = some cfg) : Singular i s (s.setChan c { s.chan c with cfg := cfg })
  /-- a channel enabled (R6, R7) -/
  | enables (c : ChanId) (n w : Nat) (hi : TakesFor i s .enableChannel 0x10 c) (hr : s.resetting = false)
      (hstate : (s.chan c).rt.state = .disabled) (hshape : scheduleShape (s.chan c).cfg.schedule s.descs = some (n, w))
      (halign : (s.chan c).cfg.outputStart % (s.chan c).cfg.outputSize = 0) (hapart : s.windowOverlap c = false) :
      Singular i s (s.setChan c { s.chan c with rt := Runtime.enabled (s.chan c).cfg s.tick n w, ctr := .zero })
  /-- a channel's counters cleared (R151) -/
  | clears (c : ChanId) (hi : TakesFor i s .clearCounters 0x14 c) :
      Singular i s (s.setChan c { s.chan c with ctr := .zero })
  /-- a soft reset completed (R169) -/
  | completes (hi : i = .softResetCompletion) (hr : s.resetting = true) (hc : s.resetComplete = true) :
      Singular i s { s.softCleared with resetting := false }
  /-- a request taken (R105) -/
  | takes (kind : BitVec 1) (addr : Word) (len : BitVec 3) (init : BitVec 4) (tag : Byte) (be : Half) (data : BitVec 128)
      (hi : i = .takeRequest kind addr len init tag be data) (ha : s.uqAccept = true) :
      Singular i s { s with intake := s.intake ++ [⟨requestOf kind addr len init tag be data, s.tick⟩] }

/-- What a command but a pin reset does: a row of moves, one move of the Tracking Table and the row of moves it calls for, or
one singular effect. -/
inductive Effect (i : Instr) (s t : State) : Prop
  | moves (h : Moved s t)
  | table (u : State) (h : TableMove s u) (hu : Moved u t)
  | singular (u : State) (h : Singular i s u) (hu : u.Alike t)

theorem Effect.refl (i : Instr) (s : State) : Effect i s s := .moves .refl

theorem Effect.of_alike {i : Instr} {s t : State} (h : s.Alike t) : Effect i s t := .moves h.moved

theorem Effect.of_singular {i : Instr} {s t : State} (h : Singular i s t) : Effect i s t := .singular t h (.refl t)

theorem Effect.alike {i : Instr} {s t u : State} (h : Effect i s t) (hu : t.Alike u) : Effect i s u := by
  cases h with
  | moves h => exact .moves (h.tail (.alike hu))
  | table v hv hvt => exact .table v hv (hvt.tail (.alike hu))
  | singular v hv hvt => exact .singular v hv (hvt.trans hu)

section
variable {i : Instr} {s : State}

/-! ## Items -/

theorem effect_ruleSetChannel (c : ChanId) (n : Nat) (v : Word) : Effect i s (ruleSetChannel c n v s).state := by
  by_cases hstate : (s.chan c).rt.state = .disabled
  · cases hset : (s.chan c).cfg.setItem n v with
    | none => rw [ruleSetChannel_outOfRange hstate hset]; exact .refl i s
    | some cfg => rw [ruleSetChannel_accepted hstate hset]; exact .of_singular (.configures c n v cfg hstate hset)
  · rw [ruleSetChannel_locked hstate]
    exact .refl i s

theorem effect_ruleSetDescriptor (d : DescId) (n : Nat) (v : Word) : Effect i s (ruleSetDescriptor d n v s).state := by
  cases hlock : s.descLocked d with
  | true => rw [ruleSetDescriptor_locked hlock]; exact .refl i s
  | false =>
    cases hset : (s.descs[d]).setItem n v with
    | none => rw [ruleSetDescriptor_outOfRange hlock hset]; exact .refl i s
    | some x => rw [ruleSetDescriptor_accepted hlock hset]; exact .of_singular (.descriptor d n v x hlock hset)

theorem effect_ruleChannelSelector (index item : Byte) (v : Word) : Effect i s (ruleChannelSelector index item v s).state := by
  unfold ruleChannelSelector
  split
  · split
    · exact effect_ruleSetChannel _ _ v
    · exact .refl i s
  · exact .refl i s

theorem effect_ruleDescriptorSelector (index item : Byte) (v : Word) :
    Effect i s (ruleDescriptorSelector index item v s).state := by
  unfold ruleDescriptorSelector
  split
  · split
    · exact effect_ruleSetDescriptor _ _ v
    · exact .refl i s
  · exact .refl i s

/-- A global item set: RESP_LIMIT, or one that no rule of the part's collections reads. -/
theorem SetsGlobal.effect {v : Word} {n : Nat} {t : State} (h : SetsGlobal s v n t) : Effect i s t := by
  cases h with
  | respLimit hv => exact .of_singular (.respLimit v.toNat hv)
  | tickDiv | partInitiator | eventMask =>
    exact .of_alike ⟨rfl, rfl, rfl, rfl, rfl, rfl, rfl, rfl, rfl, rfl, rfl, rfl, rfl, rfl, id⟩

/-- A rule that leaves the state or sets a global item. -/
theorem effect_of_spec {r : Answer} {v : Word} {n : Nat} (h : r.state = s ∧ r.status ≠ .ok ∨ SetsGlobal s v n r.state) :
    Effect i s r.state := by
  rcases h with ⟨h, -⟩ | h
  · rw [h]; exact .refl i s
  · exact h.effect

theorem effect_ruleSetItem (scope index item : Byte) (v : Word) : Effect i s (ruleSetItem scope index item v s).state := by
  unfold ruleSetItem
  split
  · split
    · split
      · exact effect_of_spec (ruleSetTickDiv_spec v s)
      · exact effect_of_spec (ruleSetPartInitiator_spec v s)
      · exact effect_of_spec (ruleSetRespLimit_spec v s)
      · exact effect_of_spec (ruleSetEventMask_spec v s)
      · exact .refl i s
    · exact .refl i s
  · exact effect_ruleChannelSelector index item v
  · exact effect_ruleDescriptorSelector index item v
  · exact .refl i s

theorem ruleGetItem_state (scope index item : Byte) : (ruleGetItem scope index item s).state = s := by
  unfold ruleGetItem
  split <;> rfl

/-! ## Channel commands -/

/-- A command with a channel argument, by its rule for each channel. -/
theorem effect_withChannel {b : Byte} {rule : ChanId → State → Answer}
    (h : ∀ c : ChanId, b = BitVec.ofNat 8 c.val → Effect i s (rule c s).state) : Effect i s (withChannel b rule s).state := by
  rcases withChannel_spec b rule s with ⟨-, hbad⟩ | ⟨hlt, hrule⟩
  · rw [hbad]; exact .refl i s
  · rw [hrule]; exact h ⟨b.toNat, hlt⟩ (by simp)

theorem effect_ruleEnable {c : ChanId} (hi : TakesFor i s .enableChannel 0x10 c) (hr : s.resetting = false) :
    Effect i s (ruleEnable c s).state := by
  by_cases hstate : (s.chan c).rt.state = .disabled
  · cases hshape : scheduleShape (s.chan c).cfg.schedule s.descs with
    | none => rw [ruleEnable_invalid hstate hshape]; exact .refl i s
    | some nw =>
      rw [ruleEnable_of_shape hstate hshape]
      split
      · exact .refl i s
      · next halign =>
        split
        · exact .refl i s
        · next hapart =>
          exact .of_singular (.enables c nw.1 nw.2 hi hr hstate hshape (not_not.1 halign) (Bool.eq_false_iff.2 hapart))
  · rw [ruleEnable_locked hstate]
    exact .refl i s

theorem effect_ruleClearCounters {c : ChanId} (hi : TakesFor i s .clearCounters 0x14 c) :
    Effect i s (ruleClearCounters c s).state := .of_singular (.clears c hi)

theorem effect_ruleDisable (c : ChanId) : Effect i s (ruleDisable c s).state := by
  rw [ruleDisable_eq]
  exact .moves (.tail (.single (.disables (· == c))) (.alike (State.alike_logAll _ _)))

/-! ## Events and the soft reset -/

theorem alike_rulePopEvent : s.Alike (rulePopEvent s).state := by
  unfold rulePopEvent
  split
  · next e rest he =>
    refine ⟨rfl, rfl, rfl, rfl, rfl, rfl, rfl, rfl, rfl, rfl, rfl, rfl, rfl, rfl, fun h => ?_⟩
    rw [he] at h
    exact Nat.le_of_succ_le h
  · exact .refl s

theorem alike_clearEventFifo : s.Alike s.clearEventFifo :=
  ⟨rfl, rfl, rfl, rfl, rfl, rfl, rfl, rfl, rfl, rfl, rfl, rfl, rfl, rfl, fun _ => Nat.zero_le 32⟩

/-- SOFT_RESET disables every channel, then the part is RESETTING (R166). -/
theorem effect_ruleSoftReset : Effect i s (ruleSoftReset s).state := by
  rw [ruleSoftReset_eq]
  refine .moves (.tail (.tail (.single (.disables fun _ => true)) (.resets fun c => ?_)) (.alike (State.alike_raise _ _)))
  rw [State.chan_disableAll]
  exact Channel.disabledTo_not_matched _ _

/-! ## The rows of the management commands, and the bytes that complete them -/

/-- A command by its own rule (R154, R174). -/
theorem effect_ruleOf {cmd : Cmd} {args : List Byte}
    (henable : ∀ c : ChanId, cmd = .enable → args = [BitVec.ofNat 8 c.val] → TakesFor i s .enableChannel 0x10 c)
    (hclear : ∀ c : ChanId, cmd = .clearCounters → args = [BitVec.ofNat 8 c.val] → TakesFor i s .clearCounters 0x14 c)
    (hr : (s.resetting && cmd.heldByReset) = false) : Effect i s (ruleOf cmd args s).state := by
  unfold ruleOf
  split
  · rw [ruleGetItem_state]; exact .refl i s
  · exact effect_ruleSetItem _ _ _ _
  · exact effect_withChannel fun c hb => effect_ruleEnable (henable c rfl (by rw [hb])) (by simpa [Cmd.heldByReset] using hr)
  · exact effect_withChannel fun c _ => effect_ruleDisable c
  · exact effect_withChannel fun _ _ => .refl i s
  · exact effect_withChannel fun _ _ => .refl i s
  · exact effect_withChannel fun c hb => effect_ruleClearCounters (hclear c rfl (by rw [hb]))
  · exact .of_alike alike_rulePopEvent
  · exact .of_alike alike_clearEventFifo
  · exact .refl i s
  · exact .refl i s
  · exact effect_ruleSoftReset
  · exact .refl i s

/-- A row is nothing, an answer alone, or the command's own rule and its answer. -/
theorem effect_row {cmd : Cmd} {args : List Byte} {rule : State → Answer}
    (h : (s.resetting && cmd.heldByReset) = false → Effect i s (rule s).state) : Effect i s (s.row cmd args rule) := by
  rcases s.row_spec cmd args rule with ⟨-, hrow⟩ | ⟨-, -, -, hrow⟩ | ⟨-, hheld, hrow⟩ <;> rw [hrow]
  · exact .refl i s
  · exact .of_alike (s.alike_answer cmd _ _)
  · exact (h hheld).alike (State.alike_answer _ cmd _ _)

theorem effect_takeCommand {cmd : Cmd} {rule : State → Answer}
    (h : (s.resetting && cmd.heldByReset) = false → Effect i s (rule s).state) : Effect i s (s.takeCommand cmd rule) := by
  unfold State.takeCommand
  split
  · exact .of_alike (s.alike_answer cmd _ _)
  · next hheld => exact (h (Bool.eq_false_iff.2 hheld)).alike (State.alike_answer _ cmd _ _)

/-- A byte of the SPI frame. -/
theorem effect_spiByte {b : Byte} {t : State} (h : exec (.spiByte b) s = .next t) : Effect (.spiByte b) s t := by
  have hport (m : MgmtPort) (out : List Byte) : s.Alike { s with mgmt := m, misoOut := out } :=
    ⟨rfl, rfl, rfl, rfl, rfl, rfl, rfl, rfl, rfl, rfl, rfl, rfl, rfl, rfl, id⟩
  cases hr : s.rstAsserted with
  | true =>
    simp only [exec, execSpiByte, hr, if_true, Host.Outcome.next.injEq] at h
    rw [← h]
    exact .refl _ s
  | false =>
    rw [exec_spiByte hr, Host.Outcome.next.injEq] at h
    rw [← h]
    split
    · exact .refl _ s
    · unfold State.commandByte
      split
      · exact .of_alike (hport _ _)
      · next cmd _ =>
        split
        · next hargs =>
          refine effect_takeCommand (effect_ruleOf (fun _ hcmd => ?_) fun _ hcmd => ?_)
          all_goals
            rw [hcmd] at hargs
            exact absurd hargs (by decide)
        · exact .of_alike (hport _ _)
    · unfold State.argumentByte
      split
      · exact .refl _ s
      · next cmd hcmd =>
        have hcode := Cmd.code_of_ofCode hcmd
        have hlast {args : List Byte} {x : Byte} (hx : s.mgmt.args ++ [b] = [x]) : b = x := by
          simpa using congrArg List.getLast? hx
        dsimp only
        split
        · exact .of_alike (hport _ _)
        · exact effect_takeCommand (effect_ruleOf
            (fun c hc hx => .inr ⟨by rw [hlast (args := []) hx], by rw [hcode, hc]; rfl⟩)
            fun c hc hx => .inr ⟨by rw [hlast (args := []) hx], by rw [hcode, hc]; rfl⟩)
    · unfold State.responseByte
      split <;> exact .of_alike (hport _ _)
    · exact .of_alike (hport _ _)

end

end Sys2Proof.Machine
end

section
/-! PROOFS. The happenings of traffic, records and time as moves, and the effect of every command but a pin reset. -/

namespace Sys2Proof.Machine

/-! ## What does not look at the Intake Queue -/

/-- The state with another Intake Queue. -/
def State.withIntake (s : State) (l : List IntakeEntry) : State := { s with intake := l }

section
variable (s : State) (l : List IntakeEntry)

theorem State.logEvent_withIntake (e : RawEvent) : (s.withIntake l).logEvent e = (s.logEvent e).withIntake l := by
  unfold State.logEvent
  split
  · next h =>
    rw [if_pos (show kindEnabled s.eventMask e.kind = true from h)]
    split
    · next h2 => rw [if_pos (show s.events.length < Config.eventCap from h2)]; rfl
    · next h2 => rw [if_neg (show ¬ s.events.length < Config.eventCap from h2)]; rfl
  · next h => rw [if_neg (show ¬ kindEnabled s.eventMask e.kind = true from h)]

theorem State.logAll_withIntake (es : List RawEvent) : (s.withIntake l).logAll es = (s.logAll es).withIntake l := by
  induction es generalizing s with
  | nil => rfl
  | cons e es ih =>
    simp only [State.logAll, List.foldl_cons] at ih ⊢
    rw [State.logEvent_withIntake, ih]

theorem State.raise_withIntake (qs : List (List RawEvent)) : (s.withIntake l).raise qs = (s.raise qs).withIntake l :=
  State.logAll_withIntake { s with choice := (mergeOrder qs.flatten.length s.choice qs).2 } l _

theorem State.generate_withIntake (c : ChanId) (kind : RecordKind) (cf : CondFlags) (np : Bool) (time : Word) :
    (s.withIntake l).generate c kind cf np time =
      ((s.generate c kind cf np time).1.withIntake l, (s.generate c kind cf np time).2) := by
  by_cases h : s.records.length < Config.recordCap
  · rw [show s.generate c kind cf np time = _ from if_pos h]
    exact if_pos h
  · rw [show s.generate c kind cf np time = _ from if_neg h]
    exact if_neg h

theorem State.takeSample_withIntake (c : ChanId) (x : Sample) (before : List RawEvent) :
    (s.withIntake l).takeSample c x before = (s.takeSample c x before).withIntake l := by
  let r := (s.chan c).takeSample c x
  have hgenerate := State.generate_withIntake (s.setChan c r.1) l c .sample r.2.1 false x.stamp
  exact (congrArg (fun g : State × List RawEvent => g.1.raise [before ++ r.2.2.1, r.2.2.2, g.2]) hgenerate).trans
    (State.raise_withIntake _ l _)

/-- The result of a commit handed on: its sample, if it has one, and its events (R63). -/
def State.handOn (s : State) (c : ChanId) (res : CommitResult) : State :=
  match res.sample with
  | none => (s.setChan c res.chan).raise [res.events]
  | some x => (s.setChan c res.chan).takeSample c x res.events

theorem State.intakeWrite_of_commits {s : State} {c : ChanId} {r : Request}
    (h : commits (s.chan c).cfg (s.chan c).rt r = true) (stamp : Word) : s.intakeWrite c r stamp =
      s.handOn c (commitFrame c s.descs { s.chan c with rt := stageWrite (s.chan c).cfg (s.chan c).rt r } stamp) :=
  if_pos h

theorem State.handOn_withIntake (c : ChanId) (res : CommitResult) :
    (s.withIntake l).handOn c res = (s.handOn c res).withIntake l := by
  unfold State.handOn
  split
  · exact State.raise_withIntake (s.setChan c res.chan) l _
  · exact State.takeSample_withIntake (s.setChan c res.chan) l c _ _

theorem State.intakeWrite_withIntake (c : ChanId) (r : Request) (stamp : Word) :
    (s.withIntake l).intakeWrite c r stamp = (s.intakeWrite c r stamp).withIntake l := by
  cases hcommit : commits (s.chan c).cfg (s.chan c).rt r with
  | false =>
    rw [show s.intakeWrite c r stamp = _ from if_neg (by simp [hcommit])]
    exact if_neg (Bool.eq_false_iff.1 hcommit)
  | true =>
    rw [State.intakeWrite_of_commits hcommit, ← State.handOn_withIntake]
    exact State.intakeWrite_of_commits (s := s.withIntake l) hcommit stamp

end

/-! ## The head of the Intake Queue (R107 to R115) -/

/-- A verdict that names an intake window is of a live channel (R19). -/
theorem State.intakeMatched_of_classify {s : State} {r : Request} {c : ChanId} (h : s.classify r = .intake c) :
    (s.chan c).rt.state.intakeMatched = true := by
  unfold State.classify at h
  split at h
  · exact absurd h (by simp)
  · split at h
    · split at h
      · exact absurd h (by simp)
      · split at h
        · next d hd =>
          split at h
          · obtain rfl : d = c := by simpa using h
            unfold State.intakeOwner at hd
            have hmatched := List.find?_some hd
            exact (Bool.and_eq_true_iff.1 hmatched).1
          · exact absurd h (by simp)
        · exact absurd h (by simp)
    · split at h <;> exact absurd h (by simp)

/-- A verdict that names an output area is of a channel that is not DISABLED (R19). -/
theorem State.ne_disabled_of_classify {s : State} {r : Request} {c : ChanId} (h : s.classify r = .outputRead c) :
    (s.chan c).rt.state ≠ .disabled := by
  unfold State.classify at h
  split at h
  · exact absurd h (by simp)
  · split at h
    · split at h
      · exact absurd h (by simp)
      · split at h
        · split at h <;> exact absurd h (by simp)
        · exact absurd h (by simp)
    · split at h
      · next d hd =>
        obtain rfl : d = c := by simpa using h
        unfold State.outputOwner at hd
        have hmatched := List.find?_some hd
        exact (LifeCycle.outputMatched_iff _).1 (Bool.and_eq_true_iff.1 hmatched).1
      · exact absurd h (by simp)

section
variable {s : State} {h : IntakeEntry} {rest : List IntakeEntry}

/-- A refused write: the channel's REFUSED, then the answer, then the event. -/
theorem State.moved_refuseWrite (hi : s.intake = h :: rest) (c : ChanId) (kind : EventKind) :
    Moved s (State.refuseWrite (s.withIntake rest) c kind h.req) := by
  have hbump : Moved s (s.bumpCtr c Counters.bumpRefused) :=
    .single (.channel c _ (.of_sameBut_stepPtr rfl (Counters.le_bumpRefused _) rfl rfl) (.inl rfl))
  refine .tail (.tail hbump (.answers h rest h.req.refusal hi rfl rfl)) (.alike (State.Alike.respond ?_ h.req.refusal))
  exact State.alike_raise (State.bumpCtr (s.withIntake rest) c Counters.bumpRefused) _

/-- The head relayed (R113 to R115). -/
theorem State.moved_relays (hi : s.intake = h :: rest) (hroom : s.forwardRoom = true) :
    Moved s ((s.withIntake rest).joinForward h.req) :=
  .single (.relays h rest hi (s.forwardRoom_iff.1 hroom).1)

/-- The outcome of an examination of the head is a row of moves. -/
theorem State.moved_complete {t : State} (hi : s.intake = h :: rest)
    (ht : State.complete (s.withIntake rest) h (s.classify h.req) = some t) : Moved s t := by
  cases hv : s.classify h.req with
  | breaksForm =>
    rw [hv] at ht
    obtain rfl := Option.some.inj ht
    refine .tail (.single (.answers h rest h.req.refusal hi rfl rfl)) (.alike (State.Alike.respond ?_ h.req.refusal))
    let u : State := { s.withIntake rest with refusedRequests := satInc s.refusedRequests }
    have hu : (s.withIntake rest).Alike u := ⟨rfl, rfl, rfl, rfl, rfl, rfl, rfl, rfl, rfl, rfl, rfl, rfl, rfl, rfl, id⟩
    exact hu.trans (State.alike_raise u _)
  | writeRefused c =>
    rw [hv] at ht
    obtain rfl := Option.some.inj ht
    exact State.moved_refuseWrite hi c .writeRefused
  | intruder c =>
    rw [hv] at ht
    obtain rfl := Option.some.inj ht
    exact State.moved_refuseWrite hi c .intruder
  | intake c =>
    rw [hv] at ht
    have hwritten := State.moved_intakeWrite (State.intakeMatched_of_classify hv) h.req h.stamp
    have hi' : (s.intakeWrite c h.req h.stamp).intake = h :: rest := by
      have hframe := s.intakeWrite_frame c h.req h.stamp
      dsimp only at hframe
      rw [hframe]
      exact hi
    simp only [State.complete, State.intakeWrite_withIntake] at ht
    split at ht
    · split at ht
      · next hroom =>
        obtain rfl := Option.some.inj ht
        refine hwritten.tail (.relays h rest hi' ?_)
        rw [State.intakeWrite_forward]
        exact (s.forwardRoom_iff.1 hroom).1
      · exact absurd ht (by simp)
    · obtain rfl := Option.some.inj ht
      exact hwritten.tail (.answers h rest h.req.absorbed hi' rfl rfl)
  | outputRead c =>
    rw [hv] at ht
    cases hres : (s.withIntake rest).reserved c ((s.withIntake rest).readSlot c h.req) with
    | true =>
      rw [State.complete_outputRead_reserved hres] at ht
      obtain ⟨hroom, ht⟩ := Option.ite_none_right_eq_some.1 ht
      obtain rfl := Option.some.inj ht
      exact .single (.holds h rest c _ hi hroom (State.ne_disabled_of_classify hv) hres)
    | false =>
      rw [State.complete_outputRead_free hres] at ht
      obtain ⟨hroom, ht⟩ := Option.ite_none_right_eq_some.1 ht
      obtain rfl := Option.some.inj ht
      exact State.moved_relays hi hroom
  | plain =>
    rw [hv, State.complete_plain] at ht
    obtain ⟨hroom, ht⟩ := Option.ite_none_right_eq_some.1 ht
    obtain rfl := Option.some.inj ht
    exact State.moved_relays hi hroom

end

theorem moved_classification {s t : State} (h : exec .classification s = .next t) : Moved s t := by
  cases hr : s.rstAsserted || s.moveDue with
  | true =>
    simp only [exec, execClassification, hr, if_true, Host.Outcome.next.injEq] at h
    rw [← h]
    split <;> exact .refl
  | false =>
    obtain ⟨hr, hm⟩ := Bool.or_eq_false_iff.1 hr
    cases hi : s.intake with
    | nil =>
      simp only [exec, execClassification, hi, Host.Outcome.next.injEq] at h
      rw [← h]
    | cons x rest =>
      rw [execClassification_head hr hm hi, Host.Outcome.next.injEq] at h
      cases hc : State.complete { s with intake := rest } x (s.classify x.req) with
      | none => rw [← h, hc]; exact .refl
      | some u =>
        rw [← h, hc]
        exact State.moved_complete hi hc

/-! ## Released reads and deadlines -/

theorem moved_releasedReadMove {s t : State} (h : exec .releasedReadMove s = .next t) : Moved s t := by
  cases hfind : s.hold.findIdx? (fun g => g.cond == .released) with
  | none =>
    simp only [exec, execReleasedReadMove, hfind, Host.Outcome.next.injEq] at h
    rw [← h]
  | some i =>
    obtain ⟨before, x, after', hsplit, rfl, -, -⟩ := split_of_findIdx? hfind
    have hget : s.hold[before.length]? = some x := by rw [hsplit, getElem?_length_append]
    have herase : s.hold.eraseIdx before.length = before ++ after' := by rw [hsplit, eraseIdx_length_append]
    simp only [exec, execReleasedReadMove, hfind, hget, herase, Host.Outcome.next.injEq] at h
    rw [← h]
    split
    · next hroom =>
      exact .tail (.tail (.single (.readMoves before after' x hsplit hroom.1)) (.drains x.chan)) (.alike (State.alike_raise _ _))
    · exact .refl

/-- The deadline of a WAITING channel. -/
theorem State.moved_waitingDeadline {s : State} {c : ChanId} (d : Word) (hstate : (s.chan c).rt.state = .waiting) :
    Moved s (s.waitingDeadline c d) := by
  have hlive : (s.chan c).rt.state.intakeMatched = true := by rw [hstate]; rfl
  by_cases hmiss : (s.chan c).rt.miss + 1 < (s.chan c).cfg.missLimit
  · rw [State.waitingDeadline_of_lt hmiss]
    exact .single (.channel c _ (.waitingMiss hstate hmiss) (.inl rfl))
  · rw [State.waitingDeadline_of_not_lt hmiss]
    exact State.moved_channel_generate (.lost (.inl hstate)) hlive rfl _

/-- The deadline of a RUNNING channel. -/
theorem State.moved_runningDeadline {s : State} {c : ChanId} (d : Word) (hstate : (s.chan c).rt.state = .running) :
    Moved s (s.runningDeadline c d) := by
  have hlive : (s.chan c).rt.state.intakeMatched = true := by rw [hstate]; rfl
  by_cases hmiss : (s.chan c).rt.miss + 1 < (s.chan c).cfg.missLimit
  · rw [State.runningDeadline_of_lt hmiss]
    have hstate' : ((s.chan c).synthesized d).rt.state = .running := hstate
    exact State.moved_channel_generate (.synthesized hstate hmiss) hlive (by rw [hstate']; rfl) _
  · rw [State.runningDeadline_of_not_lt hmiss]
    exact State.moved_channel_generate (.lost (.inr hstate)) hlive rfl _

theorem moved_deadlineReached {s t : State} {c : ChanId} (h : exec (.deadlineReached c) s = .next t) : Moved s t := by
  simp only [exec, execDeadlineReached, Host.Outcome.next.injEq] at h
  rw [← h]
  split
  · exact .refl
  · next d hd =>
    split
    · split
      · next hstate => exact State.moved_waitingDeadline d hstate
      · next hstate => exact State.moved_runningDeadline d hstate
      all_goals exact .refl
    · exact .refl

/-! ## The Downstream Port (07_downstream_port.md) -/

theorem effect_grantForward (i : Instr) (s : State) : Effect i s s.grantForward := by
  unfold State.grantForward
  split
  · next r rest e free hforward hfree =>
    exact .table _ (.grantsForward r rest e .forward hforward ((s.mem_freeEntries e).1 (by simp [hfree]))) .refl
  · exact .refl i s

theorem effect_grantRecord (i : Instr) (s : State) : Effect i s s.grantRecord := by
  cases hclaim : s.claim with
  | none => simp only [State.grantRecord, hclaim]; exact .refl i s
  | some n =>
    obtain ⟨before, r, after', hsplit, -, heligible, hbefore⟩ := split_of_findIdx? hclaim
    match hfree : s.freeEntries with
    | [] => simp only [State.grantRecord, hfree, hclaim]; exact .refl i s
    | [a] => simp only [State.grantRecord, hfree, hclaim]; exact .refl i s
    | a :: b :: free =>
      have hsorted := s.freeEntries_sorted
      rw [hfree] at hsorted
      have hab : a ≠ b := (List.rel_of_pairwise_cons hsorted (List.mem_cons_self ..)).ne
      rw [State.grantRecord_eq hsplit heligible hbefore hfree]
      exact .table _ (.grantsRecord before after' r a b .record hsplit heligible hab
        ((s.mem_freeEntries a).1 (by simp [hfree])) ((s.mem_freeEntries b).1 (by simp [hfree]))) .refl

theorem effect_grant {s t : State} (h : exec .grant s = .next t) : Effect .grant s t := by
  simp only [exec, execGrant, Host.Outcome.next.injEq] at h
  rw [← h]
  split
  · exact .refl _ s
  · split
    · exact .refl _ s
    · exact effect_grantForward _ s
    · exact effect_grantRecord _ s

theorem effect_issue {s t : State} (h : exec .issue s = .next t) : Effect .issue s t := by
  simp only [exec, execIssue, Host.Outcome.next.injEq] at h
  rw [← h]
  split
  · exact .refl _ s
  · split
    · next e rest q horder _ =>
      split
      · next t ht => exact .table _ (.issues e rest t s.tick s.respLimit _ horder ht) .refl
      · exact .refl _ s
    · exact .refl _ s

/-- The end of a half: noted, or the record settles, FAILED counted for it before unless it is written (R97, R98). -/
theorem State.moved_endHalf (s : State) (c : ChanId) (q : Half) (h : RecHalf) (x : HalfOutcome) :
    Moved s (s.endHalf c q h x).1 := by
  rcases s.endHalf_cases c q h x with hnone | ⟨before, o, after', hsplit, rfl, rfl, hfirst⟩
  · rw [hnone]
  · rw [State.endHalf_of_split hsplit hfirst]
    split
    · split
      · exact .single (.settles before after' o hsplit)
      · have hbump : Moved s (s.bumpCtr o.chan Counters.bumpFailed) :=
          .single (.channel o.chan _ (.of_sameBut_stepPtr rfl (Counters.le_bumpFailed _) rfl rfl) (.inl rfl))
        exact hbump.tail (.settles before after' o hsplit)
    · exact .single (.notes before after' o (o.endHalf h x) hsplit (by cases h <;> rfl) (by cases h <;> rfl))

theorem State.moved_halfEnded (s : State) (c : ChanId) (q : Half) (h : RecHalf) (x : HalfOutcome) :
    Moved s (s.halfEnded c q h x) :=
  ((s.moved_endHalf c q h x).tail (.drains c)).tail (.alike (State.alike_raise _ _))

theorem State.alike_strayResponse (s : State) (tag : Byte) : s.Alike (s.strayResponse tag) := by
  let u : State := { s with stray := satInc s.stray }
  have hu : s.Alike u := ⟨rfl, rfl, rfl, rfl, rfl, rfl, rfl, rfl, rfl, rfl, rfl, rfl, rfl, rfl, id⟩
  exact hu.trans (State.alike_raise u _)

theorem Transaction.servesRecord_of_origin {t : Transaction} {c : ChanId} {q : Half} {h : RecHalf}
    (ho : t.origin = .record c q h) : t.servesRecord = true := by
  simp only [Transaction.servesRecord, ho]

section
variable {s : State} {e : EntryId} {t : Transaction}

/-- A transaction completed (R133 to R135). -/
theorem effect_completeTx {i : Instr} (ht : (s.entry e).tx = some t) (hissued : ∃ stamp limit, t.phase = .issued stamp limit)
    (hlive : t.orphan = false) (status : BitVec 2) (data : BitVec 128) : Effect i s (s.completeTx e t status data) := by
  cases ho : t.origin with
  | forward init tag =>
    rw [State.completeTx_of_forward ho]
    exact .table _ (.freesForward e t _ ht hissued hlive (by rw [ho]; split <;> rfl)) .refl
  | record c q h =>
    rw [State.completeTx_of_record ho]
    exact .table _ (.frees e t ht hissued (.inr (Transaction.servesRecord_of_origin ho))) (State.moved_halfEnded _ c q h _)

/-- A transaction orphaned (R136). -/
theorem effect_orphanTx {i : Instr} (ht : (s.entry e).tx = some t) (hissued : ∃ stamp limit, t.phase = .issued stamp limit)
    (hlive : t.orphan = false) : Effect i s (s.orphanTx e t) := by
  cases ho : t.origin with
  | forward init tag =>
    rw [State.orphanTx_of_forward ho]
    exact .table _ (.orphansForward e t _ ht hissued hlive ho) .refl
  | record c q h =>
    rw [State.orphanTx_of_record ho]
    exact .table _ (.orphans e t ht hissued (Transaction.servesRecord_of_origin ho)) (State.moved_halfEnded _ c q h _)

end

theorem effect_response {s t : State} {init : BitVec 4} {tag : Byte} {status : BitVec 2} {data : BitVec 128}
    (h : exec (.response init tag status data) s = .next t) : Effect (.response init tag status data) s t := by
  cases hr : s.rstAsserted with
  | true =>
    simp only [exec, execResponse, hr, if_true, Host.Outcome.next.injEq] at h
    rw [← h]
    exact .refl _ s
  | false =>
    cases hm : s.matchTag tag with
    | none =>
      rw [exec_response_of_stray hr hm, Host.Outcome.next.injEq] at h
      rw [← h]
      exact .of_alike (s.alike_strayResponse tag)
    | some et =>
      obtain ⟨e, x⟩ := et
      obtain ⟨-, hx, hissued⟩ := (s.matchTag_eq_some_iff tag e x).1 hm
      rw [exec_response_of_match hr hm, Host.Outcome.next.injEq] at h
      rw [← h]
      split
      · next horphan => exact .table _ (.frees e x hx hissued (.inl horphan)) (State.alike_strayResponse _ tag).moved
      · next hlive => exact effect_completeTx hx hissued (Bool.eq_false_iff.2 hlive) status data

theorem effect_timeout {s t : State} {e : EntryId} (h : exec (.timeout e) s = .next t) : Effect (.timeout e) s t := by
  simp only [exec, execTimeout, Host.Outcome.next.injEq] at h
  rw [← h]
  split
  · exact .refl _ s
  · next x hx =>
    split
    · exact .refl _ s
    · next stamp limit hphase =>
      split
      · next hdue => exact effect_orphanTx hx ⟨stamp, limit, hphase⟩ hdue.1
      · exact .refl _ s

/-! ## Every command but a pin reset -/

theorem effect_tick {s t : State} (h : exec .tick s = .next t) : Effect .tick s t := by
  simp only [exec, execTick, Host.Outcome.next.injEq] at h
  rw [← h]
  split
  · exact .refl _ s
  · exact .singular _ (.ticks rfl) ⟨rfl, rfl, rfl, rfl, rfl, rfl, rfl, rfl, rfl, rfl, rfl, rfl, rfl, rfl, id⟩

theorem effect_softResetCompletion {s t : State} (h : exec .softResetCompletion s = .next t) :
    Effect .softResetCompletion s t := by
  simp only [exec, execSoftResetCompletion, Host.Outcome.next.injEq] at h
  rw [← h]
  split
  · next hdone =>
    obtain ⟨hr, -, hc⟩ := hdone
    refine .singular _ (.completes rfl hr hc) ?_
    have hraise := s.softCleared.alike_raise [[⟨.resetDone, none, 0⟩]]
    exact { hraise with resetting := rfl }
  · exact .refl _ s

theorem effect_takeRequest {s t : State} {kind : BitVec 1} {addr : Word} {len : BitVec 3} {init : BitVec 4} {tag : Byte}
    {be : Half} {data : BitVec 128} (h : exec (.takeRequest kind addr len init tag be data) s = .next t) :
    Effect (.takeRequest kind addr len init tag be data) s t := by
  simp only [exec, execTakeRequest, Host.Outcome.next.injEq] at h
  rw [← h]
  split
  · next haccept => exact .of_singular (.takes kind addr len init tag be data rfl haccept)
  · exact .refl _ s

/-- CS_FALL, CS_RISE and BAD_COMMAND move the port alone. -/
theorem alike_port {i : Instr} {s t : State} (h : exec i s = .next t) (hi : i = .csFall ∨ i = .csRise ∨ ∃ code, i = .badCommand code) :
    s.Alike t := by
  have hport (low : Bool) (m : MgmtPort) (out : List Byte) : s.Alike { s with csLow := low, mgmt := m, misoOut := out } :=
    ⟨rfl, rfl, rfl, rfl, rfl, rfl, rfl, rfl, rfl, rfl, rfl, rfl, rfl, rfl, id⟩
  rcases hi with rfl | rfl | ⟨code, rfl⟩
  · simp only [exec, execCsFall, Host.Outcome.next.injEq] at h
    rw [← h]
    split
    · exact .refl s
    · split <;> exact hport _ _ _
  · simp only [exec, execCsRise, Host.Outcome.next.injEq] at h
    rw [← h]
    split
    · exact hport _ _ _
    · exact .refl s
  · simp only [exec, execBadCommand, Host.Outcome.next.injEq] at h
    rw [← h]
    split
    · exact hport _ _ _
    · exact .refl s

/-- The effect of every command but a pin reset. -/
theorem exec_effect {i : Instr} {s t : State} (h : exec i s = .next t) (hreset : i ≠ .pinReset)
    (hrelease : i ≠ .pinResetRelease) : Effect i s t := by
  have hrow {u : State} (hu : exec i s = .next u) (he : Effect i s u) : Effect i s t := by
    rw [h, Host.Outcome.next.injEq] at hu
    exact hu ▸ he
  cases i with
  | tick => exact effect_tick h
  | pinReset => exact absurd rfl hreset
  | pinResetRelease => exact absurd rfl hrelease
  | csFall => exact .of_alike (alike_port h (.inl rfl))
  | csRise => exact .of_alike (alike_port h (.inr (.inl rfl)))
  | badCommand code => exact .of_alike (alike_port h (.inr (.inr ⟨code, rfl⟩)))
  | getItem scope index item =>
    exact hrow rfl (effect_row fun _ => by rw [ruleGetItem_state]; exact .refl _ s)
  | setItem scope index item value => exact hrow rfl (effect_row fun _ => effect_ruleSetItem scope index item value)
  | setChannelItem channel item value =>
    exact hrow rfl (effect_row fun _ => effect_ruleChannelSelector channel item value)
  | setDescriptorItem descriptor item value =>
    exact hrow rfl (effect_row fun _ => effect_ruleDescriptorSelector descriptor item value)
  | setTickDiv value => exact hrow rfl (effect_row fun _ => effect_of_spec (ruleSetTickDiv_spec value s))
  | setPartInitiator value => exact hrow rfl (effect_row fun _ => effect_of_spec (ruleSetPartInitiator_spec value s))
  | setRespLimit value => exact hrow rfl (effect_row fun _ => effect_of_spec (ruleSetRespLimit_spec value s))
  | setEventMask value => exact hrow rfl (effect_row fun _ => effect_of_spec (ruleSetEventMask_spec value s))
  | enableChannel channel =>
    exact hrow rfl (effect_row fun hr => effect_withChannel fun c hc =>
      effect_ruleEnable (.inl (by rw [hc])) (by simpa [Cmd.heldByReset] using hr))
  | disableChannel channel => exact hrow rfl (effect_row fun _ => effect_withChannel fun c _ => effect_ruleDisable c)
  | getChannelState channel => exact hrow rfl (effect_row fun _ => effect_withChannel fun _ _ => .refl _ s)
  | getCounters channel => exact hrow rfl (effect_row fun _ => effect_withChannel fun _ _ => .refl _ s)
  | clearCounters channel =>
    exact hrow rfl (effect_row fun _ => effect_withChannel fun c hc => effect_ruleClearCounters (.inl (by rw [hc])))
  | popEvent => exact hrow rfl (effect_row fun _ => .of_alike alike_rulePopEvent)
  | clearEvents => exact hrow rfl (effect_row fun _ => .of_alike alike_clearEventFifo)
  | getStatus => exact hrow rfl (effect_row fun _ => .refl _ s)
  | getTime => exact hrow rfl (effect_row fun _ => .refl _ s)
  | softReset => exact hrow rfl (effect_row fun _ => effect_ruleSoftReset)
  | softResetCompletion => exact effect_softResetCompletion h
  | takeRequest kind addr len init tag be data => exact effect_takeRequest h
  | classification => exact .moves (moved_classification h)
  | releasedReadMove => exact .moves (moved_releasedReadMove h)
  | deadlineReached channel => exact .moves (moved_deadlineReached h)
  | grant => exact effect_grant h
  | issue => exact effect_issue h
  | response init tag status data => exact effect_response h
  | timeout entry => exact effect_timeout h
  | spiByte mosi => exact effect_spiByte h

end Sys2Proof.Machine
end

section
/-! PROOFS. What the effects leave as it was, and how an invariant kept by each of them is kept by every step; time, the locked
configuration, the counters and the generations. -/

namespace Sys2Proof.Machine

/-! ## What a move leaves -/

section
variable {s t : State}

theorem Move.descs (h : Move s t) : t.descs = s.descs := by
  cases h with
  | alike h => exact h.descs
  | settles => exact State.endReservation_descs ..
  | drains c => exact s.drainTest_descs c
  | _ => rfl

theorem Move.tick (h : Move s t) : t.tick = s.tick := by
  cases h with
  | alike h => exact h.tick
  | settles => exact State.endReservation_tick ..
  | drains c => exact s.drainTest_tick c
  | _ => rfl

theorem Move.respLimit (h : Move s t) : t.respLimit = s.respLimit := by
  cases h with
  | alike h => exact h.respLimit
  | settles => exact State.endReservation_respLimit ..
  | drains c => exact s.drainTest_respLimit c
  | _ => rfl

theorem Move.table (h : Move s t) : t.table = s.table := by
  cases h with
  | alike h => exact h.table
  | settles => exact State.endReservation_table ..
  | drains c => exact s.drainTest_table c
  | _ => rfl

theorem Move.entry (h : Move s t) (e : EntryId) : t.entry e = s.entry e := State.entry_eq_of_table s h.table e

/-- A channel changes by its own rules alone. -/
theorem Move.chan (h : Move s t) (c : ChanId) : (s.chan c).Moves s.descs (t.chan c) := by
  cases h with
  | alike h => rw [h.chan c]; exact .refl _
  | channel d ch h _ =>
    rw [State.chan_setChan]
    split
    · next hd => exact hd ▸ h
    · exact .refl _
  | settles => rw [State.chan_endReservation]; exact .refl _
  | drains d =>
    by_cases hd : (s.chan d).rt.state = .draining ∧ s.drained d = true
    · rw [State.drainTest_of_drained hd, State.chan_setChan]
      split
      · next hdc => exact hdc ▸ Channel.Moves.drained hd.1
      · exact .refl _
    · rw [State.drainTest_of_not_drained hd]
      exact .refl _
  | disables D =>
    rw [State.chan_disableAll]
    split
    · exact .disabledTo _ _
    · exact .refl _
  | _ => exact .refl _

theorem TableMove.chans (h : TableMove s t) : t.chans = s.chans := by cases h <;> rfl

theorem TableMove.descs (h : TableMove s t) : t.descs = s.descs := by cases h <;> rfl

theorem TableMove.tick (h : TableMove s t) : t.tick = s.tick := by cases h <;> rfl

theorem TableMove.respLimit (h : TableMove s t) : t.respLimit = s.respLimit := by cases h <;> rfl

theorem TableMove.chan (h : TableMove s t) (c : ChanId) : t.chan c = s.chan c := State.chan_eq_of_chans s h.chans c

end

/-! ## What holds of every state the moves lead to -/

/-- What every move keeps is kept by a row of moves. -/
theorem Moved.keeps {P : State → Prop} (hmove : ∀ {s t : State}, Move s t → P s → P t) {s t : State} (h : Moved s t) (hs : P s) :
    P t := by
  induction h with
  | refl => exact hs
  | tail _ hm ih => exact hmove hm ih

/-- The channels, the descriptors and the time a row of moves leaves. -/
structure Moved.Frame (s t : State) : Prop where
  descs : t.descs = s.descs
  tick : t.tick = s.tick
  table : t.table = s.table
  chan (c : ChanId) : (s.chan c).Moves s.descs (t.chan c)

theorem Moved.frame {s t : State} (h : Moved s t) : Moved.Frame s t :=
  Moved.keeps (P := Moved.Frame s) (fun hm hf => ⟨hm.descs.trans hf.descs, hm.tick.trans hf.tick, hm.table.trans hf.table,
    fun c => (hf.chan c).trans (hf.descs ▸ hm.chan c)⟩) h ⟨rfl, rfl, rfl, fun _ => .refl _⟩

/-- A pin reset leaves every block at its reset state, and its release too (R170). -/
theorem exec_pinReset_eq {i : Instr} {s t : State} (h : exec i s = .next t) (hi : i = .pinReset ∨ i = .pinResetRelease) :
    t = s ∨ ∃ b, t = { s.pinCleared with rstAsserted := b } := by
  rcases hi with rfl | rfl
  · exact .inr ⟨true, (Host.Outcome.next.inj h).symm⟩
  · simp only [exec, execPinResetRelease, Host.Outcome.next.injEq] at h
    split at h
    · exact .inr ⟨false, h.symm⟩
    · exact .inl h.symm

/-- What is kept by every effect and holds after a pin reset. -/
structure Kept (P : State → Prop) : Prop where
  move {s t : State} (h : Move s t) : P s → P t
  table {s t : State} (h : TableMove s t) : P s → P t
  singular {i : Instr} {s t : State} (h : Singular i s t) : P s → P t
  reset (s : State) (b : Bool) : P { s.pinCleared with rstAsserted := b }

theorem Kept.alike {P : State → Prop} (hP : Kept P) {s t : State} (h : s.Alike t) (hs : P s) : P t := hP.move (.alike h) hs

theorem Kept.effect {P : State → Prop} (hP : Kept P) {i : Instr} {s t : State} (h : Effect i s t) (hs : P s) : P t := by
  cases h with
  | moves h => exact Moved.keeps hP.move h hs
  | table u h hu => exact Moved.keeps hP.move hu (hP.table h hs)
  | singular u h hu => exact hP.alike hu (hP.singular h hs)

theorem Kept.exec {P : State → Prop} (hP : Kept P) {i : Instr} {s t : State} (h : exec i s = .next t) (hs : P s) : P t := by
  by_cases hi : i = .pinReset ∨ i = .pinResetRelease
  · rcases exec_pinReset_eq h hi with rfl | ⟨b, rfl⟩
    · exact hs
    · exact hP.reset s b
  · exact hP.effect (exec_effect h (fun h' => hi (.inl h')) fun h' => hi (.inr h')) hs

/-- An invariant kept by every effect is kept by every step. -/
theorem Kept.step {P : State → Prop} (hP : Kept P) (s t : State) (hs : P s) (h : step s = .next t) : P t := by
  unfold Machine.step at h
  split at h
  · exact Host.Outcome.next.inj h ▸ hs
  · refine hP.exec h (hP.alike (s := s) ?_ hs)
    exact ⟨rfl, rfl, rfl, rfl, rfl, rfl, rfl, rfl, rfl, rfl, rfl, rfl, rfl, rfl, id⟩

/-! ## Time (R64) -/

/-- Settles O2: the two cases of TICK, and that no other effect moves the counter. -/
theorem timeMovesByTickAlone : Obligations.TimeMovesByTickAlone := by
  unfold Obligations.TimeMovesByTickAlone
  refine ⟨fun s hr => ?_, fun s hr => ?_, fun i s t h hi hreset hrelease => ?_⟩
  · simp only [exec, execTick, hr]
    rfl
  · simp only [exec, execTick, hr, if_true]
  · cases exec_effect h hreset hrelease with
    | moves h => exact h.frame.tick
    | table u h hu => exact hu.frame.tick.trans h.tick
    | singular u h hu =>
      refine hu.tick.trans ?_
      cases h with
      | ticks htick => exact absurd htick hi
      | _ => rfl

/-! ## The locked configuration (R2, R24) -/

/-- A channel at the completion of a soft reset (R169). -/
theorem State.chan_completed (s : State) (c : ChanId) :
    State.chan { s.softCleared with resetting := false } c = (s.chan c).softCleared := by
  simp [State.softCleared, State.chan]

/-- An entry at the completion of a soft reset (R169). -/
theorem State.entry_completed (s : State) (e : EntryId) :
    State.entry { s.softCleared with resetting := false } e = (s.entry e).freeOrphan := by
  simp [State.softCleared, State.entry]

/-- How a singular effect changes a channel: not at all, or by one of the management commands that name it, or by the
completion of a soft reset. -/
inductive ChannelEffect (i : Instr) (s : State) (c : ChanId) : Channel → Prop
  | same : ChannelEffect i s c (s.chan c)
  | configured (n : Nat) (v : Word) (cfg : ChanConfig) (hstate : (s.chan c).rt.state = .disabled)
      (hset : (s.chan c).cfg.setItem n v = some cfg) : ChannelEffect i s c { s.chan c with cfg := cfg }
  | enabled (n w : Nat) (hi : TakesFor i s .enableChannel 0x10 c) (hr : s.resetting = false)
      (hstate : (s.chan c).rt.state = .disabled) (hshape : scheduleShape (s.chan c).cfg.schedule s.descs = some (n, w))
      (halign : (s.chan c).cfg.outputStart % (s.chan c).cfg.outputSize = 0) :
      ChannelEffect i s c { s.chan c with rt := Runtime.enabled (s.chan c).cfg s.tick n w, ctr := .zero }
  | cleared (hi : TakesFor i s .clearCounters 0x14 c) : ChannelEffect i s c { s.chan c with ctr := .zero }
  | completed (hi : i = .softResetCompletion) : ChannelEffect i s c (s.chan c).softCleared

section
variable {i : Instr} {s t : State}

theorem ChannelEffect.setChan {c d : ChanId} {ch : Channel} (h : ChannelEffect i s d ch) :
    ChannelEffect i s c ((s.setChan d ch).chan c) := by
  rw [State.chan_setChan]
  split
  · next hdc => exact hdc ▸ h
  · exact .same

theorem Singular.chan (h : Singular i s t) (c : ChanId) : ChannelEffect i s c (t.chan c) := by
  cases h with
  | configures d n v cfg hstate hset => exact .setChan (.configured n v cfg hstate hset)
  | enables d n w hi hr hstate hshape halign => exact .setChan (.enabled n w hi hr hstate hshape halign)
  | clears d hi => exact .setChan (.cleared hi)
  | completes hi =>
    rw [State.chan_completed]
    exact .completed hi
  | _ => exact .same

/-- A channel that is not DISABLED keeps its configuration. -/
theorem ChannelEffect.cfg {c : ChanId} {ch : Channel} (h : ChannelEffect i s c ch)
    (hlive : (s.chan c).rt.state ≠ .disabled) : ch.cfg = (s.chan c).cfg := by
  cases h with
  | configured n v cfg hstate => exact absurd hstate hlive
  | _ => rfl

/-- A descriptor that the schedule of a channel out of DISABLED names keeps its items. -/
theorem Singular.descs (h : Singular i s t) {c : ChanId} (hlive : (s.chan c).rt.state ≠ .disabled) {k : Fin 4}
    (hk : k.val < (s.chan c).cfg.schedule.len) :
    t.descs[((s.chan c).cfg.schedule.steps[k]).desc] = s.descs[((s.chan c).cfg.schedule.steps[k]).desc] := by
  cases h with
  | descriptor d n v x hlock hset =>
    have hne : d ≠ ((s.chan c).cfg.schedule.steps[k]).desc := by
      intro hd
      exact absurd ((s.descLocked_iff d).2 ⟨c, hlive, k, hk, hd.symm⟩) (by simp [hlock])
    have hval : d.val ≠ (((s.chan c).cfg.schedule.steps[k]).desc).val := fun h => hne (Fin.ext h)
    exact Vector.getElem_set_ne d.isLt (Fin.isLt _) hval
  | _ => rfl

end

/-- Settles O49: moves keep configuration and descriptors, and the singular effects meet the locks. -/
theorem lockedConfigurationStands : Obligations.LockedConfigurationStands := by
  unfold Obligations.LockedConfigurationStands
  intro i s t c h hreset hrelease hlive
  cases exec_effect h hreset hrelease with
  | moves h => exact ⟨(h.frame.chan c).cfg, fun k _ => by rw [h.frame.descs]⟩
  | table u h hu =>
    refine ⟨(hu.frame.chan c).cfg.trans (congrArg Channel.cfg (h.chan c)), fun k _ => ?_⟩
    rw [hu.frame.descs, h.descs]
  | singular u h hu =>
    refine ⟨?_, fun k hk => ?_⟩
    · rw [hu.chan c]
      exact (h.chan c).cfg hlive
    · rw [hu.descs]
      exact h.descs hlive hk

/-! ## The counters (R150, R151) -/

/-- What clears the counters of a channel: ENABLE_CHANNEL or CLEAR_COUNTERS of it, or the completion of a soft reset. -/
theorem ChannelEffect.counters {i : Instr} {s : State} {c : ChanId} {ch : Channel} (h : ChannelEffect i s c ch) :
    ch.ctr = (s.chan c).ctr ∨ ch.ctr = .zero ∧ (TakesFor i s .enableChannel 0x10 c ∨ TakesFor i s .clearCounters 0x14 c
      ∨ i = .softResetCompletion) := by
  cases h with
  | enabled n w hi => exact .inr ⟨rfl, .inl hi⟩
  | cleared hi => exact .inr ⟨rfl, .inr (.inl hi)⟩
  | completed hi => exact .inr ⟨rfl, .inr (.inr hi)⟩
  | _ => exact .inl rfl

/-- Settles O50: no move decreases a counter, and the effects that clear them are those of R151. -/
theorem countersNeverDecrease : Obligations.CountersNeverDecrease := by
  unfold Obligations.CountersNeverDecrease
  intro i s t c h
  by_cases hpin : i = .pinReset ∨ i = .pinResetRelease
  · rcases exec_pinReset_eq h hpin with rfl | ⟨b, rfl⟩
    · exact .inl fun f _ => le_rfl
    · exact .inr ⟨congrArg Channel.ctr (State.chan_reset c), by tauto⟩
  · obtain ⟨hreset, hrelease⟩ := not_or.1 hpin
    have hle (hctr : (s.chan c).ctr.Le (t.chan c).ctr) (f : Counters → Half) (hf : f ∈ [Counters.frames, Counters.auxFrames,
        Counters.faults, Counters.early, Counters.synth, Counters.limited, Counters.dropped, Counters.failed,
        Counters.refused]) : (f (s.chan c).ctr).toNat ≤ (f (t.chan c).ctr).toNat := hctr f hf
    cases exec_effect h hreset hrelease with
    | moves h => exact .inl (hle (h.frame.chan c).counters)
    | table u h hu => exact .inl (hle (h.chan c ▸ (hu.frame.chan c).counters))
    | singular u h hu =>
      rcases (h.chan c).counters with hsame | ⟨hzero, hi⟩
      · refine .inl (hle ?_)
        rw [hu.chan c, hsame]
        exact .refl _
      · refine .inr ⟨(congrArg Channel.ctr (hu.chan c)).trans hzero, ?_⟩
        rcases hi with (hi | ⟨hi, hcode⟩) | (hi | ⟨hi, hcode⟩) | hi
        · exact .inl hi
        · exact .inr (.inr (.inl ⟨hi, .inl hcode⟩))
        · exact .inr (.inl hi)
        · exact .inr (.inr (.inl ⟨hi, .inr hcode⟩))
        · exact .inr (.inr (.inr (.inl hi)))

/-! ## The generations (R124, R135) -/

/-- The entry keeps its generation and, if it is in use, stays in use. -/
def Entry.Stands (x y : Entry) : Prop := y.gen = x.gen ∧ (x.tx.isSome = true → y.tx.isSome = true)

/-- The entry is freed and its generation advances. -/
def Entry.Freed (x y : Entry) : Prop := x.tx.isSome = true ∧ y.tx = none ∧ y.gen = x.gen + 1

theorem Entry.Stands.refl (x : Entry) : x.Stands x := ⟨rfl, id⟩

theorem Entry.Stands.trans {x y z : Entry} (hxy : x.Stands y) (hyz : y.Stands z) : x.Stands z :=
  ⟨hyz.1.trans hxy.1, hyz.2 ∘ hxy.2⟩

/-- An entry taken keeps its generation. -/
theorem State.stands_take (s : State) (e : EntryId) (t : Transaction) (f : EntryId) :
    (s.entry f).Stands ((s.take e t).entry f) := by
  rw [State.entry_take]
  split
  · next h => exact ⟨by rw [h], fun _ => rfl⟩
  · exact .refl _

theorem State.freed_freeEntry {s : State} {e : EntryId} {t : Transaction} (ht : (s.entry e).tx = some t) (f : EntryId) :
    (s.entry f).Stands ((s.freeEntry e).entry f) ∨ (s.entry f).Freed ((s.freeEntry e).entry f) := by
  rw [State.entry_freeEntry]
  split
  · next h => exact .inr (h ▸ ⟨by rw [ht]; rfl, rfl, rfl⟩)
  · exact .inl (.refl _)

theorem TableMove.ages {s t : State} (h : TableMove s t) (f : EntryId) :
    (s.entry f).Stands (t.entry f) ∨ (s.entry f).Freed (t.entry f) := by
  cases h with
  | grantsForward r rest e => exact .inl (State.stands_take _ e r.transaction f)
  | grantsRecord before after' r a b =>
    exact .inl ((State.stands_take _ a (r.transaction (s.recordStart r) .first) f).trans
      (State.stands_take (State.take _ a (r.transaction (s.recordStart r) .first)) b
        (r.transaction (s.recordStart r) .second) f))
  | issues e rest t stamp limit => exact .inl (s.stands_take e { t with phase := .issued stamp limit } f)
  | freesForward e t r ht => exact State.freed_freeEntry ht f
  | frees e t ht => exact State.freed_freeEntry ht f
  | orphansForward e t => exact .inl (s.stands_take e { t with orphan := true } f)
  | orphans e t => exact .inl (s.stands_take e { t with orphan := true } f)

theorem Singular.ages {i : Instr} {s t : State} (h : Singular i s t) (f : EntryId) :
    (s.entry f).Stands (t.entry f) ∨ (s.entry f).Freed (t.entry f) := by
  cases h with
  | completes =>
    rw [State.entry_completed, Entry.freeOrphan]
    split
    · next hsome => exact .inr ⟨hsome, rfl, rfl⟩
    · exact .inl (.refl _)
  | _ => exact .inl (.refl _)

/-- Settles O51: each move of the table, the completion of a soft reset, and everything else, which leaves the table. -/
theorem generationsMarkFreeing : Obligations.GenerationsMarkFreeing := by
  unfold Obligations.GenerationsMarkFreeing
  intro i s t e h hreset hrelease
  cases exec_effect h hreset hrelease with
  | moves h =>
    rw [State.entry_eq_of_table s h.frame.table e]
    exact .inl ⟨rfl, id⟩
  | table u h hu =>
    rw [State.entry_eq_of_table u hu.frame.table e]
    exact h.ages e
  | singular u h hu =>
    rw [hu.entry e]
    exact h.ages e

end Sys2Proof.Machine
end

section
/-! PROOFS. The places of an upstream request (6.6): every effect but a request taken keeps requests held plus answers given. -/

namespace Sys2Proof.Machine

/-- Two counts over a list without repetition that differ at one element alone. -/
theorem countP_update {α : Type} {p q : α → Bool} {l : List α} {a : α} (hl : l.Nodup) (ha : a ∈ l)
    (hpq : ∀ b, b ≠ a → p b = q b) : l.countP p + (q a).toNat = l.countP q + (p a).toNat := by
  obtain ⟨before, after', rfl⟩ := List.append_of_mem ha
  obtain ⟨-, hcons, hdisj⟩ := List.nodup_append.1 hl
  have hafter : after'.countP p = after'.countP q :=
    List.countP_congr fun b hb => by rw [hpq b fun hba => (List.nodup_cons.1 hcons).1 (hba ▸ hb)]
  have hbefore : before.countP p = before.countP q :=
    List.countP_congr fun b hb => by rw [hpq b fun hba => hdisj b hb a (List.mem_cons_self ..) hba]
  simp only [List.countP_append, List.countP_cons, hafter, hbefore]
  cases p a <;> cases q a <;> simp <;> omega

section
variable (init : BitVec 4) (tag : Byte)

/-! ## The entries that owe an answer -/

/-- How many entries owe an answer to a request of the initiator and tag. -/
def State.owed (s : State) : Nat := (List.finRange 24).countP fun e => (s.entry e).owes init tag

/-- Requests held plus answers given, of the initiator and tag. -/
def State.balance (s : State) : Nat := s.unanswered init tag + s.answersGiven init tag

theorem State.balance_eq (s : State) : s.balance init tag =
    s.intake.countP (fun h => h.req.isFrom init tag) + s.hold.countP (fun h => h.req.isFrom init tag)
      + s.forward.countP (Request.isFrom init tag) + s.owed init tag + s.usOut.countP (UpResponse.isFor init tag) := rfl

theorem Entry.owes_of_none {x : Entry} (h : x.tx = none) : x.owes init tag = false := by
  simp only [Entry.owes, h]

theorem Entry.owes_of_some {x : Entry} {t : Transaction} (h : x.tx = some t) :
    x.owes init tag = (!t.orphan && t.origin == .forward init tag) := by
  simp only [Entry.owes, h]

theorem Entry.owes_of_forward {x : Entry} {t : Transaction} {i : BitVec 4} {g : Byte} (h : x.tx = some t)
    (hlive : t.orphan = false) (ho : t.origin = .forward i g) : x.owes init tag = (i == init && g == tag) := by
  rw [Entry.owes_of_some init tag h, hlive, ho, Bool.eq_iff_iff]
  simp

theorem Entry.owes_of_record {x : Entry} {t : Transaction} (h : x.tx = some t) (hno : t.orphan = true ∨ t.servesRecord = true) :
    x.owes init tag = false := by
  rw [Entry.owes_of_some init tag h]
  rcases hno with horphan | hrecord
  · simp [horphan]
  · cases ho : t.origin with
    | forward => simp [Transaction.servesRecord, ho] at hrecord
    | record => simp

/-- One entry replaced. -/
theorem State.owed_setEntry (s : State) (e : EntryId) (x : Entry) :
    (s.setEntry e x).owed init tag + ((s.entry e).owes init tag).toNat = s.owed init tag + (x.owes init tag).toNat := by
  have h := countP_update (p := fun f => ((s.setEntry e x).entry f).owes init tag) (q := fun f => (s.entry f).owes init tag)
    (List.nodup_finRange 24) (List.mem_finRange e) fun f hf => by rw [State.entry_setEntry_of_ne s e f x hf.symm]
  rw [State.entry_setEntry_self] at h
  exact h

theorem State.owed_take (s : State) (e : EntryId) (t : Transaction) :
    (s.take e t).owed init tag + ((s.entry e).owes init tag).toNat =
      s.owed init tag + (Entry.owes init tag ⟨(s.entry e).gen, some t⟩).toNat := s.owed_setEntry init tag e _

theorem State.owed_freeEntry (s : State) (e : EntryId) :
    (s.freeEntry e).owed init tag + ((s.entry e).owes init tag).toNat = s.owed init tag :=
  s.owed_setEntry init tag e _

/-! ## Each effect -/

theorem UpResponse.isFor_eq {r : UpResponse} {q : Request} (hinit : r.init = q.init) (htag : r.tag = q.tag) :
    r.isFor init tag = q.isFrom init tag := by
  rw [UpResponse.isFor, Request.isFrom, hinit, htag]

theorem countP_cons_eq {α : Type} (p : α → Bool) (a : α) (l : List α) : (a :: l).countP p = l.countP p + (p a).toNat := by
  cases h : p a <;> simp [h]

/-- The reads of a Hold List count the same after releases. -/
theorem countP_release {f : HoldEntry → HoldEntry} (hf : ∀ h, (f h).req = h.req) (l : List HoldEntry) :
    (l.map f).countP (fun h => h.req.isFrom init tag) = l.countP fun h => h.req.isFrom init tag := by
  rw [List.countP_map]
  exact List.countP_congr fun h _ => by simp [hf]

variable {s t : State}

theorem Move.balance (h : Move s t) : t.balance init tag = s.balance init tag := by
  have howed : t.owed init tag = s.owed init tag := by
    simp only [State.owed, h.entry]
  rw [State.balance_eq, State.balance_eq, howed]
  cases h with
  | alike h => rw [h.intake, h.hold, h.forward, h.usOut]
  | answers x rest r hi hinit htag =>
    simp only [hi, State.respond, List.countP_append, countP_cons_eq, List.countP_nil, UpResponse.isFor_eq init tag hinit htag]
    omega
  | relays x rest hi =>
    simp only [hi, State.joinForward, List.countP_append, countP_cons_eq, List.countP_nil]
    omega
  | holds x rest c slot hi =>
    simp only [hi, List.countP_append, countP_cons_eq, List.countP_nil]
    omega
  | readMoves before after' x hsplit =>
    simp only [hsplit, State.joinForward, List.countP_append, countP_cons_eq, List.countP_nil]
    omega
  | settles before after' o =>
    have hhold : (State.endReservation { s with outstanding := before ++ after' } o.chan o.slot).hold.countP
        (fun h => h.req.isFrom init tag) = s.hold.countP fun h => h.req.isFrom init tag := by
      rw [State.endReservation_eq]
      dsimp only
      split
      · rfl
      · exact countP_release init tag (HoldEntry.release_req _ _) s.hold
    rw [hhold, State.endReservation_intake, State.endReservation_forward, State.endReservation_usOut]
  | drains c => rw [s.drainTest_intake, s.drainTest_hold, s.drainTest_forward, s.drainTest_usOut]
  | disables D =>
    have hhold := countP_release init tag (f := fun h => if D h.chan && s.freed h then { h with cond := .released } else h)
      (fun h => by split <;> rfl) s.hold
    exact congrArg (fun n => s.intake.countP _ + n + s.forward.countP _ + _ + s.usOut.countP _) hhold
  | _ => rfl

theorem TableMove.balance (h : TableMove s t) : t.balance init tag = s.balance init tag := by
  rw [State.balance_eq, State.balance_eq]
  cases h with
  | grantsForward r rest e w hf he =>
    have howed := State.owed_take init tag { s with forward := rest } e r.transaction
    rw [Entry.owes_of_none init tag (x := State.entry { s with forward := rest } e) he,
      Entry.owes_of_forward init tag (t := r.transaction) rfl rfl rfl] at howed
    change s.intake.countP _ + s.hold.countP _ + rest.countP _
      + State.owed init tag (State.take { s with forward := rest } e r.transaction) + s.usOut.countP _ = _
    rw [hf, countP_cons_eq, Request.isFrom]
    simp only [Bool.toNat_false] at howed
    have hrest : State.owed init tag { s with forward := rest } = s.owed init tag := rfl
    omega
  | grantsRecord before after' r a b w hsplit heligible hab ha hb =>
    let u : State := { s with
      records := before ++ after', outstanding := s.outstanding ++ [⟨r.chan, r.seq, r.slot, .awaiting, .awaiting⟩] }
    have hfirst := u.owed_take init tag a (r.transaction (s.recordStart r) .first)
    have hsecond := (u.take a (r.transaction (s.recordStart r) .first)).owed_take init tag b
      (r.transaction (s.recordStart r) .second)
    rw [Entry.owes_of_none init tag (x := u.entry a) ha, Entry.owes_of_record init tag rfl (.inr rfl)] at hfirst
    rw [State.entry_take, if_neg hab, Entry.owes_of_none init tag (x := u.entry b) hb,
      Entry.owes_of_record init tag rfl (.inr rfl)] at hsecond
    exact congrArg (fun n => s.intake.countP _ + s.hold.countP _ + s.forward.countP _ + n + s.usOut.countP _)
      (hsecond.trans hfirst)
  | issues e rest x stamp limit dq hs hx =>
    have howed := s.owed_take init tag e { x with phase := .issued stamp limit }
    rw [Entry.owes_of_some init tag hx, Entry.owes_of_some init tag (t := { x with phase := .issued stamp limit }) rfl] at howed
    exact congrArg (fun n => s.intake.countP _ + s.hold.countP _ + s.forward.countP _ + n + s.usOut.countP _)
      (Nat.add_right_cancel howed)
  | freesForward e x r hx hissued hlive ho =>
    have howed := s.owed_freeEntry init tag e
    rw [Entry.owes_of_forward init tag hx hlive ho] at howed
    change s.intake.countP _ + s.hold.countP _ + s.forward.countP _ + (s.freeEntry e).owed init tag
      + (s.usOut ++ [r]).countP _ = _
    rw [List.countP_append, countP_cons_eq, List.countP_nil, UpResponse.isFor]
    omega
  | frees e x hx hissued hno =>
    have howed := s.owed_freeEntry init tag e
    rw [Entry.owes_of_record init tag hx hno] at howed
    exact congrArg (fun n => s.intake.countP _ + s.hold.countP _ + s.forward.countP _ + n + s.usOut.countP _) howed
  | orphansForward e x r hx hissued hlive ho =>
    have howed := s.owed_take init tag e { x with orphan := true }
    rw [Entry.owes_of_forward init tag hx hlive ho,
      Entry.owes_of_record init tag (t := { x with orphan := true }) rfl (.inl rfl)] at howed
    change s.intake.countP _ + s.hold.countP _ + s.forward.countP _
      + (s.take e { x with orphan := true }).owed init tag + (s.usOut ++ [r]).countP _ = _
    rw [List.countP_append, countP_cons_eq, List.countP_nil, UpResponse.isFor]
    simp only [Bool.toNat_false] at howed
    omega
  | orphans e x hx hissued hrecord =>
    have howed := s.owed_take init tag e { x with orphan := true }
    rw [Entry.owes_of_record init tag hx (.inr hrecord),
      Entry.owes_of_record init tag (t := { x with orphan := true }) rfl (.inl rfl)] at howed
    exact congrArg (fun n => s.intake.countP _ + s.hold.countP _ + s.forward.countP _ + n + s.usOut.countP _) howed

theorem State.Alike.balance (h : s.Alike t) : t.balance init tag = s.balance init tag := Move.balance init tag (.alike h)

theorem Moved.balance (h : Moved s t) : t.balance init tag = s.balance init tag :=
  Moved.keeps (P := fun u => u.balance init tag = s.balance init tag) (fun hm hu => (hm.balance init tag).trans hu) h rfl

/-- At the completion of a soft reset no entry owes an answer, and none does after it (R168, R169). -/
theorem State.owed_completed (hc : s.resetComplete = true) :
    State.owed init tag { s.softCleared with resetting := false } = s.owed init tag := by
  obtain ⟨-, -, -, -, hlive⟩ := s.resetComplete_iff.1 hc
  refine List.countP_congr fun e _ => ?_
  rw [State.entry_completed, Entry.freeOrphan]
  split
  · next hsome =>
    obtain ⟨x, hx⟩ := Option.isSome_iff_exists.1 hsome
    rw [Entry.owes_of_record init tag hx (.inl ((Entry.live_eq_false_iff _).1 (hlive e) x hx)),
      Entry.owes_of_none init tag rfl]
  · exact Iff.rfl

theorem Singular.balance {i : Instr} (h : Singular i s t)
    (hi : ∀ kind addr len init tag be data, i ≠ .takeRequest kind addr len init tag be data) :
    t.balance init tag = s.balance init tag := by
  cases h with
  | completes _ _ hc =>
    exact congrArg (fun n => s.intake.countP _ + s.hold.countP _ + s.forward.countP _ + n + s.usOut.countP _)
      (State.owed_completed init tag hc)
  | takes kind addr len init' tag' be data hi' => exact absurd hi' (hi kind addr len init' tag' be data)
  | _ => rfl

/-- A request taken adds one to its own balance (R105). -/
theorem State.balance_takes (x : IntakeEntry) :
    State.balance init tag { s with intake := s.intake ++ [x] } = s.balance init tag + (x.req.isFrom init tag).toNat := by
  rw [State.balance_eq, State.balance_eq]
  change (s.intake ++ [x]).countP _ + s.hold.countP _ + s.forward.countP _ + s.owed init tag + s.usOut.countP _ = _
  rw [List.countP_append, countP_cons_eq, List.countP_nil]
  omega

end

/-- Settles O52: a request taken adds one, and every other effect keeps the balance. -/
theorem everyRequestAnsweredOnce : Obligations.EveryRequestAnsweredOnce := by
  unfold Obligations.EveryRequestAnsweredOnce
  intro i s t init tag h hreset hrelease
  change t.balance init tag = s.balance init tag + _
  split
  · next kind addr len init' tag' be data =>
    simp only [exec, execTakeRequest, Host.Outcome.next.injEq] at h
    subst h
    by_cases haccept : s.uqAccept = true
    · rw [if_pos haccept, State.balance_takes]
      have hfrom : Request.isFrom init tag (requestOf kind addr len init' tag' be data) = (init' == init && tag' == tag) := rfl
      rw [hfrom]
      by_cases hsame : init' = init ∧ tag' = tag
      · rw [if_pos ⟨haccept, hsame⟩, hsame.1, hsame.2]
        simp
      · have hother : (init' == init && tag' == tag) = false :=
          Bool.eq_false_iff.2 fun h => hsame (by simpa using h)
        rw [if_neg fun h => hsame h.2, hother]
        rfl
    · rw [if_neg haccept, if_neg fun h => haccept h.1, Nat.add_zero]
  · next hi =>
    cases exec_effect h hreset hrelease with
    | moves h => exact h.balance init tag
    | table u h hu => exact (hu.balance init tag).trans (h.balance init tag)
    | singular u h hu => exact (hu.balance init tag).trans (h.balance init tag hi)

end Sys2Proof.Machine
end

section
/-! PROOFS. The invariants of the whole part, one by one: the reset state meets it, and each effect keeps it. -/

namespace Sys2Proof.Machine

/-! ## Capacities (O53) -/

theorem State.withinCapacity_reset : State.reset.withinCapacity := by
  refine ⟨Nat.zero_le _, Nat.zero_le _, Nat.zero_le _, Nat.zero_le _, Nat.zero_le _, fun c => ?_⟩
  rw [State.chan_reset]
  exact Nat.zero_le _

theorem Move.withinCapacity {s t : State} (h : Move s t) (hs : s.withinCapacity) : t.withinCapacity := by
  obtain ⟨hintake, hforward, hhold, hrecords, hevents, hhistory⟩ := hs
  have hhistory' (c : ChanId) := (h.chan c).history (hhistory c)
  cases h with
  | alike h =>
    exact ⟨h.intake ▸ hintake, h.forward ▸ hforward, h.hold ▸ hhold, h.records ▸ hrecords, h.events hevents, hhistory'⟩
  | queues r hroom =>
    refine ⟨hintake, hforward, hhold, ?_, hevents, hhistory'⟩
    rw [List.length_append]
    exact hroom
  | answers x rest r hi =>
    rw [hi, List.length_cons] at hintake
    exact ⟨Nat.le_of_succ_le hintake, hforward, hhold, hrecords, hevents, hhistory'⟩
  | relays x rest hi hroom =>
    rw [hi, List.length_cons] at hintake
    refine ⟨Nat.le_of_succ_le hintake, ?_, hhold, hrecords, hevents, hhistory'⟩
    rw [State.joinForward_forward, List.length_append]
    exact hroom
  | holds x rest c slot hi hroom =>
    rw [hi, List.length_cons] at hintake
    refine ⟨Nat.le_of_succ_le hintake, hforward, ?_, hrecords, hevents, hhistory'⟩
    rw [List.length_append]
    exact hroom
  | readMoves before after' x hsplit hroom =>
    rw [hsplit, List.length_append, List.length_cons] at hhold
    refine ⟨hintake, ?_, ?_, hrecords, hevents, hhistory'⟩
    · rw [State.joinForward_forward, List.length_append]
      exact hroom
    · rw [State.joinForward_hold, List.length_append]
      omega
  | settles before after' o =>
    refine ⟨?_, ?_, ?_, ?_, ?_, hhistory'⟩
    · rwa [State.endReservation_intake]
    · rwa [State.endReservation_forward]
    · rwa [State.endReservation_hold_length]
    · rwa [State.endReservation_records]
    · rwa [State.endReservation_events]
  | drains c =>
    refine ⟨?_, ?_, ?_, ?_, ?_, hhistory'⟩
    · rwa [State.drainTest_intake]
    · rwa [State.drainTest_forward]
    · rwa [State.drainTest_hold]
    · rwa [State.drainTest_records]
    · rwa [State.drainTest_events]
  | disables D =>
    refine ⟨hintake, hforward, ?_, (List.length_filter_le _ _).trans hrecords, hevents, hhistory'⟩
    simpa [State.disableAll] using hhold
  | _ => exact ⟨hintake, hforward, hhold, hrecords, hevents, hhistory'⟩

theorem TableMove.withinCapacity {s t : State} (h : TableMove s t) (hs : s.withinCapacity) : t.withinCapacity := by
  obtain ⟨hintake, hforward, hhold, hrecords, hevents, hhistory⟩ := hs
  cases h with
  | grantsForward r rest e w hf =>
    rw [hf, List.length_cons] at hforward
    exact ⟨hintake, Nat.le_of_succ_le hforward, hhold, hrecords, hevents, hhistory⟩
  | grantsRecord before after' r a b w hsplit =>
    rw [hsplit, List.length_append, List.length_cons] at hrecords
    refine ⟨hintake, hforward, hhold, ?_, hevents, hhistory⟩
    change (before ++ after').length ≤ 8
    rw [List.length_append]
    omega
  | _ => exact ⟨hintake, hforward, hhold, hrecords, hevents, hhistory⟩

/-- A replaced channel keeps the capacity of the interval history. -/
theorem State.history_setChan {s : State} {d : ChanId} {ch : Channel} (hs : ∀ c, (s.chan c).rt.history.length ≤ 8)
    (hch : ch.rt.history.length ≤ 8) (c : ChanId) : ((s.setChan d ch).chan c).rt.history.length ≤ 8 := by
  rw [State.chan_setChan]
  split
  · exact hch
  · exact hs c

theorem Singular.withinCapacity {i : Instr} {s t : State} (h : Singular i s t) (hs : s.withinCapacity) : t.withinCapacity := by
  obtain ⟨hintake, hforward, hhold, hrecords, hevents, hhistory⟩ := hs
  cases h with
  | configures d => exact ⟨hintake, hforward, hhold, hrecords, hevents, State.history_setChan hhistory (hhistory d)⟩
  | enables d => exact ⟨hintake, hforward, hhold, hrecords, hevents, State.history_setChan hhistory (Nat.zero_le _)⟩
  | clears d => exact ⟨hintake, hforward, hhold, hrecords, hevents, State.history_setChan hhistory (hhistory d)⟩
  | completes =>
    refine ⟨hintake, hforward, hhold, hrecords, Nat.zero_le _, fun c => ?_⟩
    rw [State.chan_completed]
    exact Nat.zero_le _
  | takes kind addr len init tag be data hi haccept =>
    obtain ⟨-, -, hroom⟩ := s.uqAccept_iff.1 haccept
    refine ⟨?_, hforward, hhold, hrecords, hevents, hhistory⟩
    rw [List.length_append]
    exact hroom
  | _ => exact ⟨hintake, hforward, hhold, hrecords, hevents, hhistory⟩

theorem kept_withinCapacity : Kept State.withinCapacity :=
  ⟨Move.withinCapacity, TableMove.withinCapacity, Singular.withinCapacity, fun _ _ => State.withinCapacity_reset⟩

/-- Settles O53: every effect keeps the capacities. -/
theorem stepKeepsCapacities : Obligations.StepKeepsCapacities := by
  unfold Obligations.StepKeepsCapacities
  exact kept_withinCapacity.step

/-! ## Items in range and windows apart (O54) -/

theorem State.configInRange_reset : State.reset.configInRange := by
  refine ⟨fun c => ?_, fun d => ?_, by decide⟩
  · rw [State.chan_reset]
    unfold ChanConfig.inRange
    decide
  · rw [State.descs_reset]
    refine ⟨by decide, by decide, fun k f hf => ?_⟩
    simp [Descriptor.reset] at hf

theorem Move.configInRange {s t : State} (h : Move s t) (hs : s.configInRange) : t.configInRange := by
  obtain ⟨hcfg, hdescs, hlimit⟩ := hs
  refine ⟨fun c => ?_, ?_, ?_⟩
  · rw [(h.chan c).cfg]
    exact hcfg c
  · rwa [h.descs]
  · rwa [h.respLimit]

theorem TableMove.configInRange {s t : State} (h : TableMove s t) (hs : s.configInRange) : t.configInRange := by
  obtain ⟨hcfg, hdescs, hlimit⟩ := hs
  refine ⟨fun c => ?_, ?_, ?_⟩
  · rw [h.chan c]
    exact hcfg c
  · rwa [h.descs]
  · rwa [h.respLimit]

theorem ChannelEffect.inRange {i : Instr} {s : State} {c : ChanId} {ch : Channel} (h : ChannelEffect i s c ch)
    (hs : (s.chan c).cfg.inRange) : ch.cfg.inRange := by
  cases h with
  | configured n v cfg _ hset => exact (ChanConfig.sets_of_setItem hset).inRange hs
  | _ => exact hs

theorem Singular.configInRange {i : Instr} {s t : State} (h : Singular i s t) (hs : s.configInRange) : t.configInRange := by
  obtain ⟨hcfg, hdescs, hlimit⟩ := hs
  refine ⟨fun c => (h.chan c).inRange (hcfg c), ?_, ?_⟩
  · cases h with
    | descriptor d n v x _ hset =>
      intro e
      by_cases hde : d = e
      · rw [← hde]
        have hx := (Descriptor.sets_of_setItem hset).inRange (hdescs d)
        simpa using hx
      · have hval : d.val ≠ e.val := fun hv => hde (Fin.ext hv)
        have hsame : (s.descs.set d x)[e] = s.descs[e] := Vector.getElem_set_ne d.isLt e.isLt hval
        change ((s.descs.set d x)[e]).inRange
        rw [hsame]
        exact hdescs e
    | _ => exact hdescs
  · cases h with
    | respLimit n hn => exact hn
    | _ => exact hlimit

theorem kept_configInRange : Kept State.configInRange :=
  ⟨Move.configInRange, TableMove.configInRange, Singular.configInRange, fun _ _ => State.configInRange_reset⟩

theorem State.windowsApart_reset : State.reset.windowsApart := by
  intro c hlive
  rw [State.chan_reset] at hlive
  exact absurd rfl hlive

/-- Windows stay apart while every channel out of DISABLED was out of it before, with the configuration it has. -/
theorem State.windowsApart_of_live {s t : State}
    (h : ∀ c, (t.chan c).rt.state ≠ .disabled → (s.chan c).rt.state ≠ .disabled ∧ (t.chan c).cfg = (s.chan c).cfg)
    (hs : s.windowsApart) : t.windowsApart := by
  intro c hlive
  obtain ⟨hlive', hcfg⟩ := h c hlive
  obtain ⟨hown, hother⟩ := hs c hlive'
  rw [hcfg]
  refine ⟨hown, fun d hd hliveD => ?_⟩
  obtain ⟨hliveD', hcfgD⟩ := h d hliveD
  rw [hcfgD]
  exact hother d hd hliveD'

/-- A channel enabled after checks 7 and 8 keeps the windows apart (R6, R20). -/
theorem State.windowsApart_enables {s : State} {c : ChanId} {ch : Channel} (hcfg : ch.cfg = (s.chan c).cfg)
    (hapart : s.windowOverlap c = false) (hs : s.windowsApart) : (s.setChan c ch).windowsApart := by
  have hfree := mt (s.windowOverlap_iff c).2 (Bool.eq_false_iff.1 hapart)
  obtain ⟨hown, hothers⟩ := not_or.1 hfree
  have hclash (d : ChanId) (hd : d ≠ c) (hlive : (s.chan d).rt.state ≠ .disabled) :
      windowsClash (s.chan c).cfg (s.chan d).cfg = false :=
    Bool.eq_false_iff.2 fun h => hothers ⟨d, hd, hlive, h⟩
  intro a halive
  by_cases ha : c = a
  · subst ha
    rw [State.chan_setChan_self, hcfg]
    refine ⟨Bool.eq_false_iff.2 hown, fun d hd hlive => ?_⟩
    rw [State.chan_setChan_of_ne s c d ch hd.symm] at hlive ⊢
    exact hclash d hd hlive
  · rw [State.chan_setChan_of_ne s c a ch ha] at halive ⊢
    obtain ⟨hownA, hotherA⟩ := hs a halive
    refine ⟨hownA, fun d hd hlive => ?_⟩
    by_cases hdc : c = d
    · subst hdc
      rw [State.chan_setChan_self, hcfg, windowsClash_comm]
      exact hclash a (Ne.symm ha) halive
    · rw [State.chan_setChan_of_ne s c d ch hdc] at hlive ⊢
      exact hotherA d hd hlive

theorem Singular.windowsApart {i : Instr} {s t : State} (h : Singular i s t) (hs : s.windowsApart) : t.windowsApart := by
  cases h with
  | enables c n w _ _ _ _ _ hapart => exact State.windowsApart_enables (s := s) rfl hapart hs
  | configures c n v cfg hstate =>
    refine State.windowsApart_of_live (s := s) (fun d hlive => ?_) hs
    by_cases hcd : c = d
    · subst hcd
      rw [State.chan_setChan_self] at hlive
      exact absurd hstate hlive
    · rw [State.chan_setChan_of_ne s c d _ hcd] at hlive ⊢
      exact ⟨hlive, rfl⟩
  | clears c =>
    refine State.windowsApart_of_live (s := s) (fun d hlive => ?_) hs
    rw [State.chan_setChan] at hlive ⊢
    split at hlive
    · next hcd => rw [if_pos hcd]; exact hcd ▸ ⟨hlive, rfl⟩
    · next hcd => rw [if_neg hcd]; exact ⟨hlive, rfl⟩
  | completes =>
    intro c hlive
    rw [State.chan_completed] at hlive
    exact absurd rfl hlive
  | _ => exact hs

theorem kept_windowsApart : Kept State.windowsApart where
  move h hs := State.windowsApart_of_live (fun c hlive => ⟨fun hd => hlive ((h.chan c).disabled hd), (h.chan c).cfg⟩) hs
  table h hs := State.windowsApart_of_live (fun c hlive => by rw [h.chan c] at hlive ⊢; exact ⟨hlive, rfl⟩) hs
  singular := Singular.windowsApart
  reset _ _ := State.windowsApart_reset

/-- Settles O54: every effect keeps the items in range and the windows apart. -/
theorem stepKeepsItemsAndWindows : Obligations.StepKeepsItemsAndWindows := by
  unfold Obligations.StepKeepsItemsAndWindows
  exact ⟨kept_configInRange.step, kept_windowsApart.step⟩

/-! ## Timing, outputs and positions (O55, O56) -/

/-- An invariant of each channel by itself, kept by its moves and by the effects of commands on it, is kept by every step. -/
theorem kept_channels {P : Channel → Prop}
    (hmoves : ∀ {descs : Vector Descriptor 16} {a b : Channel}, a.Moves descs b → P a → P b)
    (heffect : ∀ {i : Instr} {s : State} {c : ChanId} {ch : Channel}, ChannelEffect i s c ch → P (s.chan c) → P ch)
    (hreset : P Channel.reset) : Kept fun s => ∀ c, P (s.chan c) where
  move h hs c := hmoves (h.chan c) (hs c)
  table h hs c := h.chan c ▸ hs c
  singular h hs c := heffect (h.chan c) (hs c)
  reset _ _ c := (State.chan_reset c).symm ▸ hreset

/-- A DISABLED channel has nothing to time. -/
theorem Channel.timingAgrees_of_disabled {ch : Channel} (hlimit : 1 ≤ ch.cfg.missLimit) (hdeadline : ch.rt.deadline = none)
    (hstate : ch.rt.state = .disabled) : ch.timingAgrees :=
  ⟨hlimit, by simp [hdeadline, hstate], by simp [hstate], by simp [hstate], by simp [hstate]⟩

theorem ChannelEffect.timingAgrees {i : Instr} {s : State} {c : ChanId} {ch : Channel} (h : ChannelEffect i s c ch)
    (hs : (s.chan c).timingAgrees) : ch.timingAgrees := by
  obtain ⟨hlimit, hdeadline, hrun, hmiss, hlive⟩ := hs
  cases h with
  | configured n v cfg hstate hset =>
    refine Channel.timingAgrees_of_disabled ?_ (by simpa [hstate] using hdeadline) hstate
    cases ChanConfig.sets_of_setItem hset with
    | missLimit hv => exact hv.1
    | _ => exact hlimit
  | enabled n w =>
    exact ⟨hlimit, iff_of_true rfl (.inl rfl), fun h => absurd h (by simp [Runtime.enabled]), fun _ => hlimit, fun _ => Nat.zero_le _⟩
  | completed => exact Channel.timingAgrees_of_disabled hlimit rfl rfl
  | _ => exact ⟨hlimit, hdeadline, hrun, hmiss, hlive⟩

theorem ChannelEffect.rateBounded {i : Instr} {s : State} {c : ChanId} {ch : Channel} (h : ChannelEffect i s c ch)
    (hs : (s.chan c).rateBounded) : ch.rateBounded := by
  cases h with
  | configured n v cfg hstate => exact fun hlive => absurd hstate hlive
  | enabled n w => exact fun _ => ⟨fun _ => Nat.zero_le _, fun h => absurd h (by simp [Runtime.enabled, Runtime.cleared])⟩
  | completed => exact fun hlive => absurd rfl hlive
  | _ => exact hs

theorem Channel.timingAgrees_reset : Channel.reset.timingAgrees := Channel.timingAgrees_of_disabled (by decide) rfl rfl

theorem Channel.rateBounded_reset : Channel.reset.rateBounded := fun hlive => absurd rfl hlive

theorem kept_timingAgrees : Kept State.timingAgrees :=
  kept_channels Channel.Moves.timing ChannelEffect.timingAgrees Channel.timingAgrees_reset

theorem kept_rateBounded : Kept State.rateBounded :=
  kept_channels Channel.Moves.rate ChannelEffect.rateBounded Channel.rateBounded_reset

/-- Settles O55: every effect keeps the timing fields and the bound of RATE. -/
theorem stepKeepsTimingAndRate : Obligations.StepKeepsTimingAndRate := by
  unfold Obligations.StepKeepsTimingAndRate
  exact ⟨kept_timingAgrees.step, kept_rateBounded.step⟩

/-- The shape of a schedule depends on the descriptors it names alone. -/
theorem scheduleShape_of_named {sch : Schedule} {descs descs' : Vector Descriptor 16} {n w : Nat}
    (hnamed : ∀ k : Fin 4, k.val < sch.len → descs'[(sch.steps[k]).desc] = descs[(sch.steps[k]).desc])
    (h : scheduleShape sch descs = some (n, w)) : scheduleShape sch descs' = some (n, w) := by
  obtain ⟨hvalid, hwords, hposition, hfield, hwidth⟩ := (scheduleShape_eq_some_iff _ _ _ _).1 h
  refine (scheduleShape_eq_some_iff _ _ _ _).2 ⟨fun k hk => ?_, fun k hk => ?_, hposition, fun k hk hkind => ?_, fun k hk hkind => ?_⟩
  all_goals rw [hnamed k hk]
  · exact hvalid k hk
  · exact hwords k hk
  · exact hfield k hk hkind
  · exact hwidth k hk hkind

/-- The bounds of a channel just enabled: its schedule has a step, and no position is wider than 48 bits. -/
theorem bounds_of_scheduleShape {sch : Schedule} {descs : Vector Descriptor 16} {n w : Nat}
    (h : scheduleShape sch descs = some (n, w)) : 0 < sch.len ∧ w ≤ 48 := by
  obtain ⟨hvalid, -, ⟨k, hk, hkind⟩, -, hwidth⟩ := (scheduleShape_eq_some_iff _ _ _ _).1 h
  exact ⟨Nat.zero_lt_of_lt hk, hwidth k hk hkind ▸ Descriptor.positionWidth_le (hvalid k hk)⟩

theorem ChannelEffect.follows {i : Instr} {s : State} {c : ChanId} {ch : Channel} (h : ChannelEffect i s c ch)
    (hs : (s.chan c).follows s.descs) : ch.follows s.descs := by
  cases h with
  | configured n v cfg hstate => exact fun hlive => absurd hstate hlive
  | enabled n w _ _ _ hshape =>
    obtain ⟨hlen, hw⟩ := bounds_of_scheduleShape hshape
    exact fun _ => ⟨hshape, hlen, hw, fun p hp => absurd hp (by simp [Runtime.enabled, Runtime.cleared])⟩
  | completed => exact fun hlive => absurd rfl hlive
  | _ => exact hs

theorem Singular.positionsFollow {i : Instr} {s t : State} (h : Singular i s t) (hs : s.positionsFollow) :
    t.positionsFollow := by
  rw [State.positionsFollow_iff] at hs ⊢
  intro c
  have hfollows := (h.chan c).follows (hs c)
  have hnamed (hlive : (s.chan c).rt.state ≠ .disabled) (k : Fin 4) := h.descs hlive (k := k)
  cases h with
  | descriptor =>
    intro hlive
    obtain ⟨hshape, hrest⟩ := hfollows hlive
    exact ⟨scheduleShape_of_named (hnamed hlive) hshape, hrest⟩
  | _ => exact hfollows

theorem State.positionsFollow_reset : State.reset.positionsFollow := by
  intro c hlive
  rw [State.chan_reset] at hlive
  exact absurd rfl hlive

theorem kept_positionsFollow : Kept State.positionsFollow where
  move h hs c := by
    rw [h.descs]
    exact (h.chan c).positions (hs c)
  table h hs c := by
    rw [h.descs, h.chan c]
    exact hs c
  singular := Singular.positionsFollow
  reset _ _ := State.positionsFollow_reset

/-- Settles O56: every effect keeps the decoding and the unwrapping of each channel. -/
theorem stepKeepsPositions : Obligations.StepKeepsPositions := by
  unfold Obligations.StepKeepsPositions
  exact kept_positionsFollow.step

end Sys2Proof.Machine
end

section
/-! PROOFS. DISABLED channels without traffic, and RESETTING without a live channel (1.3, 9.5): every step keeps them. -/

namespace Sys2Proof.Machine

/-! ## Life-cycle states -/

theorem LifeCycle.intakeMatched_eq_false_iff (st : LifeCycle) :
    st.intakeMatched = false ↔ st = .draining ∨ st = .disabled := by
  cases st <;> simp [LifeCycle.intakeMatched]

section
variable {s t : State}

/-- A move makes no channel live. -/
theorem Move.unmatched (h : Move s t) {c : ChanId} (hc : (s.chan c).rt.state.intakeMatched = false) :
    (t.chan c).rt.state.intakeMatched = false := by
  cases h with
  | alike h => rwa [h.chan c]
  | channel d ch _ hkept =>
    rw [State.chan_setChan]
    split
    · next hdc =>
      subst hdc
      rcases hkept with hsame | ⟨hlive, -⟩
      · rwa [hsame]
      · exact absurd hlive (by simp [hc])
    · exact hc
  | settles => rwa [State.chan_endReservation]
  | drains d =>
    by_cases hd : (s.chan d).rt.state = .draining ∧ s.drained d = true
    · rw [State.drainTest_of_drained hd, State.chan_setChan]
      split
      · rfl
      · exact hc
    · rwa [State.drainTest_of_not_drained hd]
  | disables D =>
    rw [State.chan_disableAll]
    split
    · exact Channel.disabledTo_not_matched _ _
    · exact hc
  | _ => exact hc

/-- RESETTING is set by a move that leaves no channel live. -/
theorem Move.resetting (h : Move s t) : t.resetting = s.resetting
    ∨ t.resetting = true ∧ ∀ c, (t.chan c).rt.state.intakeMatched = false := by
  cases h with
  | alike h => exact .inl h.resetting
  | settles => exact .inl (State.endReservation_resetting ..)
  | drains c => exact .inl (s.drainTest_resetting c)
  | resets hquiet => exact .inr ⟨rfl, hquiet⟩
  | _ => exact .inl rfl

theorem TableMove.resetting (h : TableMove s t) : t.resetting = s.resetting := by cases h <;> rfl

end

/-! ## RESETTING without a live channel (O57, R166) -/

theorem State.resettingQuiet_iff (s : State) : s.resettingQuiet ↔
    (s.resetting = true → ∀ c, (s.chan c).rt.state.intakeMatched = false) := by
  simp only [State.resettingQuiet, LifeCycle.intakeMatched_eq_false_iff]

theorem Move.resettingQuiet {s t : State} (h : Move s t) (hs : s.resettingQuiet) : t.resettingQuiet := by
  rw [State.resettingQuiet_iff] at hs ⊢
  intro hr c
  rcases h.resetting with hsame | ⟨-, hquiet⟩
  · exact h.unmatched (hs (hsame ▸ hr) c)
  · exact hquiet c

theorem ChannelEffect.unmatched {i : Instr} {s : State} {c : ChanId} {ch : Channel} (h : ChannelEffect i s c ch)
    (hr : s.resetting = true) (hs : (s.chan c).rt.state.intakeMatched = false) : ch.rt.state.intakeMatched = false := by
  cases h with
  | enabled n w _ hr' => exact absurd hr (by simp [hr'])
  | completed => rfl
  | _ => exact hs

theorem Singular.resetting {i : Instr} {s t : State} (h : Singular i s t) (hr : t.resetting = true) : s.resetting = true := by
  cases h with
  | completes => exact absurd hr (by simp)
  | _ => exact hr

theorem State.resettingQuiet_reset : State.reset.resettingQuiet := fun hr => absurd hr (by decide)

theorem kept_resettingQuiet : Kept State.resettingQuiet where
  move := Move.resettingQuiet
  table h hs := by
    intro hr c
    rw [h.chan c]
    exact hs (h.resetting ▸ hr) c
  singular h hs := by
    rw [State.resettingQuiet_iff] at hs ⊢
    intro hr c
    exact (h.chan c).unmatched (h.resetting hr) (hs (h.resetting hr) c)
  reset _ _ := State.resettingQuiet_reset

/-! ## DISABLED channels without traffic (O57, R16) -/

theorem Entry.serves_iff (x : Entry) (c : ChanId) :
    x.serves c ↔ ∃ t q h, x.tx = some t ∧ t.orphan = false ∧ t.origin = .record c q h := Entry.holdsDrain_iff c x

/-- A DISABLED channel stays without traffic while no channel leaves the live states or becomes DISABLED, and new records, new
entries and new reads are of channels that allow them. -/
theorem State.disabledQuiet_of {s t : State} (hmatched : ∀ c, (s.chan c).rt.state.intakeMatched = true →
      (t.chan c).rt.state.intakeMatched = true)
    (hlive : ∀ c, (s.chan c).rt.state ≠ .disabled → (t.chan c).rt.state ≠ .disabled)
    (hrecords : ∀ r ∈ t.records, (s.chan r.chan).rt.state.intakeMatched = true)
    (hentries : ∀ e c, (t.entry e).serves c → (s.chan c).rt.state ≠ .disabled)
    (hhold : ∀ h ∈ t.hold, (s.chan h.chan).rt.state ≠ .disabled) : t.disabledQuiet :=
  ⟨fun r hr => hmatched _ (hrecords r hr), fun e c h => hlive c (hentries e c h), fun h hh => hlive _ (hhold h hh)⟩

/-- The same where the channels stand as they were. -/
theorem State.disabledQuiet_of_chan {s t : State} (hchan : ∀ c, t.chan c = s.chan c)
    (hrecords : ∀ r ∈ t.records, (s.chan r.chan).rt.state.intakeMatched = true)
    (hentries : ∀ e c, (t.entry e).serves c → (s.chan c).rt.state ≠ .disabled)
    (hhold : ∀ h ∈ t.hold, (s.chan h.chan).rt.state ≠ .disabled) : t.disabledQuiet :=
  State.disabledQuiet_of (fun c h => (hchan c).symm ▸ h) (fun c h => (hchan c).symm ▸ h) hrecords hentries hhold

/-- The same where one channel keeps its life-cycle state or is live. -/
theorem State.disabledQuiet_setChan {s : State} {d : ChanId} {ch : Channel}
    (hstate : ch.rt.state = (s.chan d).rt.state ∨ ch.rt.state.intakeMatched = true) (hs : s.disabledQuiet) :
    (s.setChan d ch).disabledQuiet := by
  obtain ⟨hrecords, hentries, hhold⟩ := hs
  have hstates (c : ChanId) : ((s.setChan d ch).chan c).rt.state = (s.chan c).rt.state
      ∨ ((s.setChan d ch).chan c).rt.state.intakeMatched = true := by
    rw [State.chan_setChan]
    split
    · next hdc => exact hdc ▸ hstate
    · exact .inl rfl
  refine State.disabledQuiet_of (s := s) (fun c hc => ?_) (fun c hc => ?_) hrecords hentries hhold
  · rcases hstates c with h | h
    · rwa [h]
    · exact h
  · rcases hstates c with h | h
    · rwa [h]
    · exact LifeCycle.ne_disabled_of_intakeMatched h

theorem State.disabledQuiet_reset : State.reset.disabledQuiet := by
  refine ⟨fun r hr => absurd hr List.not_mem_nil, fun e c h => ?_, fun x hx => absurd hx List.not_mem_nil⟩
  rw [State.entry_reset, Entry.serves_iff] at h
  obtain ⟨t, q, x, ht, -⟩ := h
  exact absurd ht (by simp)

/-- A channel that drains leaves no traffic of its own (R16). -/
theorem State.disabledQuiet_drainTest {s : State} (c : ChanId) (hs : s.disabledQuiet) : (s.drainTest c).1.disabledQuiet := by
  by_cases hd : (s.chan c).rt.state = .draining ∧ s.drained c = true
  · obtain ⟨hrecords, hentries, hhold⟩ := hs
    obtain ⟨hno, hserves, hheld⟩ := (s.drained_iff c).1 hd.2
    rw [State.drainTest_of_drained hd]
    have hother {d : ChanId} (hdc : d ≠ c) (ch : Channel) : (s.setChan c ch).chan d = s.chan d :=
      State.chan_setChan_of_ne s c d ch hdc.symm
    refine ⟨fun r hr => ?_, fun e d h => ?_, fun x hx => ?_⟩
    · rw [hother (hno r hr)]
      exact hrecords r hr
    · have hdc : d ≠ c := by
        rintro rfl
        exact absurd h (Bool.eq_false_iff.1 (hserves e))
      rw [hother hdc]
      exact hentries e d h
    · rw [hother (hheld x hx)]
      exact hhold x hx
  · rw [State.drainTest_of_not_drained hd]
    exact hs

/-- Channels disabled lose their records, and are DRAINING while something else of them is left (R14). -/
theorem State.disabledQuiet_disableAll {s : State} (D : ChanId → Bool) (hs : s.disabledQuiet) :
    (s.disableAll D).disabledQuiet := by
  obtain ⟨hrecords, hentries, hhold⟩ := hs
  have hbusy {c : ChanId} (hlive : (s.chan c).rt.state ≠ .disabled) (hbusy : s.drainBusy c = true) :
      ((s.disableAll D).chan c).rt.state ≠ .disabled := by
    rw [State.chan_disableAll]
    split
    · cases hm : (s.chan c).rt.state.intakeMatched with
      | true =>
        rw [Channel.disabledTo_of_matched hm, hbusy]
        exact LifeCycle.noConfusion
      | false =>
        rw [Channel.disabledTo_of_not_matched hm]
        exact hlive
    · exact hlive
  refine ⟨fun r hr => ?_, fun e c h => ?_, fun x hx => ?_⟩
  · obtain ⟨hr, hkept⟩ := List.mem_filter.1 hr
    have hm := hrecords r hr
    rw [State.chan_disableAll_of_not (by simpa [hm] using hkept)]
    exact hm
  · refine hbusy (hentries e c h) ((s.drainBusy_iff c).2 (.inl ?_))
    obtain ⟨t, q, x, ht, ho, hr⟩ := (Entry.serves_iff _ c).1 h
    exact ⟨e, t, q, x, ht, ho, hr⟩
  · obtain ⟨g, hg, rfl⟩ := List.mem_map.1 hx
    have hchan : (if D g.chan && s.freed g then { g with cond := .released } else g).chan = g.chan := by split <;> rfl
    rw [hchan]
    exact hbusy (hhold g hg) ((s.drainBusy_iff g.chan).2 (.inr ⟨g, hg, rfl⟩))

theorem Move.disabledQuiet {s t : State} (h : Move s t) (hs : s.disabledQuiet) : t.disabledQuiet := by
  obtain ⟨hrecords, hentries, hhold⟩ := id hs
  cases h with
  | alike h =>
    exact State.disabledQuiet_of_chan (s := s) h.chan (h.records ▸ hrecords) (fun e c he => hentries e c (h.entry e ▸ he))
      (h.hold ▸ hhold)
  | channel d ch _ hkept =>
    exact State.disabledQuiet_setChan (hkept.imp_right And.right) hs
  | queues r _ hlive =>
    refine ⟨fun x hx => ?_, hentries, hhold⟩
    rcases List.mem_append.1 hx with hx | hx
    · exact hrecords x hx
    · rw [List.mem_singleton.1 hx]
      exact hlive
  | holds x rest c slot _ _ hstate =>
    refine ⟨hrecords, hentries, fun g hg => ?_⟩
    rcases List.mem_append.1 hg with hg | hg
    · exact hhold g hg
    · rw [List.mem_singleton.1 hg]
      exact hstate
  | readMoves before after' x hsplit =>
    refine ⟨hrecords, hentries, fun g hg => hhold g ?_⟩
    rw [hsplit]
    exact ((List.sublist_cons_self x after').append_left before).subset hg
  | settles before after' o =>
    refine State.disabledQuiet_of_chan (s := s) (fun c => State.chan_endReservation ..) ?_ (fun e c he => ?_) (fun g hg => ?_)
    · rw [State.endReservation_records]
      exact hrecords
    · rw [State.entry_endReservation] at he
      exact hentries e c he
    · rw [State.endReservation_eq] at hg
      dsimp only at hg
      split at hg
      · exact hhold g hg
      · obtain ⟨k, hk, rfl⟩ := List.mem_map.1 hg
        rw [HoldEntry.release_chan]
        exact hhold k hk
  | drains c => exact State.disabledQuiet_drainTest c hs
  | disables D => exact State.disabledQuiet_disableAll D hs
  | _ => exact ⟨hrecords, hentries, hhold⟩

/-- What an entry serves after another transaction is put in its place or in another's. -/
theorem State.serves_take {s : State} {e f : EntryId} {t : Transaction} {c : ChanId} (h : ((s.take e t).entry f).serves c) :
    (t.orphan = false ∧ ∃ q x, t.origin = .record c q x) ∨ (s.entry f).serves c := by
  rw [State.entry_take] at h
  split at h
  · obtain ⟨u, q, x, hu, ho, hr⟩ := (Entry.serves_iff _ c).1 h
    obtain rfl : t = u := Option.some.inj hu
    exact .inl ⟨ho, q, x, hr⟩
  · exact .inr h

theorem State.serves_freeEntry {s : State} {e f : EntryId} {c : ChanId} (h : ((s.freeEntry e).entry f).serves c) :
    (s.entry f).serves c := by
  rw [State.entry_freeEntry] at h
  split at h
  · obtain ⟨u, q, x, hu, -⟩ := (Entry.serves_iff _ c).1 h
    exact absurd hu (by simp [Entry.freed])
  · exact h

theorem TableMove.records {s t : State} (h : TableMove s t) {r : Record} (hr : r ∈ t.records) : r ∈ s.records := by
  cases h with
  | grantsRecord before after' x a b w hsplit =>
    rw [hsplit]
    exact ((List.sublist_cons_self x after').append_left before).subset hr
  | _ => exact hr

theorem TableMove.hold {s t : State} (h : TableMove s t) : t.hold = s.hold := by cases h <;> rfl

/-- An entry comes to serve a record of a channel only where one did, or by the grant of a queued record of it. -/
theorem TableMove.serves {s t : State} (h : TableMove s t) {f : EntryId} {c : ChanId} (hf : (t.entry f).serves c) :
    (∃ e, (s.entry e).serves c) ∨ ∃ r ∈ s.records, r.chan = c := by
  cases h with
  | grantsForward r rest e =>
    rcases State.serves_take (e := e) hf with ⟨-, q, x, hr⟩ | hf
    · exact absurd hr (by simp [Request.transaction])
    · exact .inl ⟨f, hf⟩
  | grantsRecord before after' r a b w hsplit =>
    have hr : r ∈ s.records := by rw [hsplit]; simp
    rcases State.serves_take (e := b) hf with ⟨-, q, x, ho⟩ | hf
    · exact .inr ⟨r, hr, (Origin.record.inj ho).1⟩
    · rcases State.serves_take (e := a) hf with ⟨-, q, x, ho⟩ | hf
      · exact .inr ⟨r, hr, (Origin.record.inj ho).1⟩
      · exact .inl ⟨f, hf⟩
  | issues e rest x _ _ _ _ hx =>
    rcases State.serves_take (e := e) hf with ⟨ho, q, k, hr⟩ | hf
    · exact .inl ⟨e, (Entry.serves_iff _ c).2 ⟨x, q, k, hx, ho, hr⟩⟩
    · exact .inl ⟨f, hf⟩
  | freesForward e | frees e => exact .inl ⟨f, State.serves_freeEntry (e := e) hf⟩
  | orphansForward e | orphans e =>
    rcases State.serves_take (e := e) hf with ⟨ho, -⟩ | hf
    · exact absurd ho (by simp)
    · exact .inl ⟨f, hf⟩

theorem TableMove.disabledQuiet {s t : State} (h : TableMove s t) (hs : s.disabledQuiet) : t.disabledQuiet := by
  obtain ⟨hrecords, hentries, hhold⟩ := hs
  refine State.disabledQuiet_of_chan h.chan (fun r hr => hrecords r (h.records hr)) (fun f c hf => ?_) (h.hold ▸ hhold)
  rcases h.serves hf with ⟨e, he⟩ | ⟨r, hr, rfl⟩
  · exact hentries e c he
  · exact LifeCycle.ne_disabled_of_intakeMatched (hrecords r hr)

/-- At the completion of a soft reset every transaction is an orphan (R168). -/
theorem State.orphan_of_resetComplete {s : State} (hc : s.resetComplete = true) {e : EntryId} {x : Transaction}
    (hx : (s.entry e).tx = some x) : x.orphan = true := by
  obtain ⟨-, -, -, -, hlive⟩ := s.resetComplete_iff.1 hc
  exact (Entry.live_eq_false_iff _).1 (hlive e) x hx

/-- After the completion no entry is in use (R169). -/
theorem State.tx_completed (s : State) (e : EntryId) :
    (State.entry { s.softCleared with resetting := false } e).tx = none := by
  rw [State.entry_completed, Entry.freeOrphan]
  split
  · rfl
  · next h => simpa using h

theorem Singular.disabledQuiet {i : Instr} {s t : State} (h : Singular i s t) (hs : s.disabledQuiet) : t.disabledQuiet := by
  obtain ⟨hrecords, hentries, hhold⟩ := id hs
  cases h with
  | completes _ _ hc =>
    obtain ⟨-, -, hempty, hnone, -⟩ := s.resetComplete_iff.1 hc
    refine ⟨fun r hr => ?_, fun e c he => ?_, fun g hg => ?_⟩
    · exact absurd (hnone ▸ hr : r ∈ ([] : List Record)) List.not_mem_nil
    · obtain ⟨x, -, -, hx, -⟩ := (Entry.serves_iff _ c).1 he
      rw [State.tx_completed] at hx
      exact absurd hx (by simp)
    · exact absurd (hempty ▸ hg : g ∈ ([] : List HoldEntry)) List.not_mem_nil
  | configures d => exact State.disabledQuiet_setChan (.inl rfl) hs
  | clears d => exact State.disabledQuiet_setChan (.inl rfl) hs
  | enables d => exact State.disabledQuiet_setChan (.inr rfl) hs
  | _ => exact ⟨hrecords, hentries, hhold⟩

theorem kept_disabledQuiet : Kept State.disabledQuiet :=
  ⟨Move.disabledQuiet, TableMove.disabledQuiet, Singular.disabledQuiet, fun _ _ => State.disabledQuiet_reset⟩

/-- Settles O57: every effect keeps the two. -/
theorem stepKeepsDisabledQuiet : Obligations.StepKeepsDisabledQuiet := by
  unfold Obligations.StepKeepsDisabledQuiet
  exact ⟨kept_disabledQuiet.step, kept_resettingQuiet.step⟩

end Sys2Proof.Machine
end

section
/-! PROOFS. A soft reset that stays complete, the send order and the held reads. -/

namespace Sys2Proof.Machine

/-! ## A soft reset that stays complete (O25, R168) -/

/-- A soft reset under way whose completion condition holds: RESETTING, no channel live, every queue empty, every entry in use
an orphan. -/
structure State.Complete (s : State) : Prop where
  resetting : s.resetting = true
  quiet (c : ChanId) : (s.chan c).rt.state.intakeMatched = false
  intake : s.intake = []
  forward : s.forward = []
  hold : s.hold = []
  records : s.records = []
  orphans (e : EntryId) (t : Transaction) (ht : (s.entry e).tx = some t) : t.orphan = true

theorem State.complete_iff (s : State) : s.Complete ↔ s.resettingQuiet ∧ s.resetting = true ∧ s.resetComplete = true := by
  rw [State.resettingQuiet_iff, State.resetComplete_iff]
  constructor
  · exact fun h => ⟨fun _ => h.quiet, h.resetting, h.intake, h.forward, h.hold, h.records,
      fun e => (Entry.live_eq_false_iff _).2 (h.orphans e)⟩
  · rintro ⟨hquiet, hr, hintake, hforward, hhold, hrecords, hlive⟩
    exact ⟨hr, hquiet hr, hintake, hforward, hhold, hrecords, fun e => (Entry.live_eq_false_iff _).1 (hlive e)⟩

theorem Move.complete {s t : State} (h : Move s t) (hs : s.Complete) : t.Complete := by
  have hr : t.resetting = true := by
    rcases h.resetting with hsame | ⟨hset, -⟩
    · rw [hsame]; exact hs.resetting
    · exact hset
  have hquiet (c : ChanId) := h.unmatched (hs.quiet c)
  have horphans (e : EntryId) (x : Transaction) (hx : (t.entry e).tx = some x) := hs.orphans e x (h.entry e ▸ hx)
  obtain ⟨-, hq, hintake, hforward, hhold, hrecords, -⟩ := hs
  cases h with
  | alike h =>
    exact ⟨hr, hquiet, h.intake.trans hintake, h.forward.trans hforward, h.hold.trans hhold, h.records.trans hrecords, horphans⟩
  | queues r _ hlive => exact absurd hlive (by simp [hq])
  | answers x rest r hi => exact absurd (hintake.symm.trans hi) (by simp)
  | relays x rest hi => exact absurd (hintake.symm.trans hi) (by simp)
  | holds x rest c slot hi => exact absurd (hintake.symm.trans hi) (by simp)
  | readMoves before after' x hsplit => exact absurd (hhold.symm.trans hsplit) (by simp)
  | settles before after' o =>
    refine ⟨hr, hquiet, ?_, ?_, ?_, ?_, horphans⟩
    · rw [State.endReservation_intake]; exact hintake
    · rw [State.endReservation_forward]; exact hforward
    · rw [← List.length_eq_zero_iff, State.endReservation_hold_length]; exact congrArg List.length hhold
    · rw [State.endReservation_records]; exact hrecords
  | drains c =>
    refine ⟨hr, hquiet, ?_, ?_, ?_, ?_, horphans⟩
    · rw [State.drainTest_intake]; exact hintake
    · rw [State.drainTest_forward]; exact hforward
    · rw [State.drainTest_hold]; exact hhold
    · rw [State.drainTest_records]; exact hrecords
  | disables D =>
    exact ⟨hr, hquiet, hintake, hforward, by rw [State.disableAll, hhold]; rfl, by rw [State.disableAll, hrecords]; rfl, horphans⟩
  | _ => exact ⟨hr, hquiet, hintake, hforward, hhold, hrecords, horphans⟩

/-- The transaction in an entry after one is put in its place or in another's. -/
theorem State.tx_take {s : State} {e f : EntryId} {t x : Transaction} (h : ((s.take e t).entry f).tx = some x) :
    (e = f ∧ t = x) ∨ (e ≠ f ∧ (s.entry f).tx = some x) := by
  rw [State.entry_take] at h
  split at h
  · next hef => exact .inl ⟨hef, Option.some.inj h⟩
  · next hef => exact .inr ⟨hef, h⟩

theorem State.tx_freeEntry {s : State} {e f : EntryId} {x : Transaction} (h : ((s.freeEntry e).entry f).tx = some x) :
    e ≠ f ∧ (s.entry f).tx = some x := by
  rw [State.entry_freeEntry] at h
  split at h
  · exact absurd h (by simp [Entry.freed])
  · next hef => exact ⟨hef, h⟩

theorem TableMove.complete {s t : State} (h : TableMove s t) (hs : s.Complete) : t.Complete := by
  obtain ⟨hr, hq, hintake, hforward, hhold, hrecords, horphans⟩ := hs
  cases h with
  | grantsForward r rest e w hf => exact absurd (hforward.symm.trans hf) (by simp)
  | grantsRecord before after' r a b w hsplit => exact absurd (hrecords.symm.trans hsplit) (by simp)
  | issues e rest x _ _ _ _ hx =>
    refine ⟨hr, hq, hintake, hforward, hhold, hrecords, fun f y hy => ?_⟩
    rcases State.tx_take (s := s) (e := e) hy with ⟨-, rfl⟩ | ⟨-, hy⟩
    · exact horphans e x hx
    · exact horphans f y hy
  | freesForward e x r hx _ hlive => exact absurd (horphans e x hx) (by simp [hlive])
  | frees e =>
    exact ⟨hr, hq, hintake, hforward, hhold, hrecords, fun f y hy => horphans f y (State.tx_freeEntry (s := s) (e := e) hy).2⟩
  | orphansForward e x r hx _ hlive => exact absurd (horphans e x hx) (by simp [hlive])
  | orphans e =>
    refine ⟨hr, hq, hintake, hforward, hhold, hrecords, fun f y hy => ?_⟩
    rcases State.tx_take (s := s) (e := e) hy with ⟨-, rfl⟩ | ⟨-, hy⟩
    · rfl
    · exact horphans f y hy

theorem Singular.complete {i : Instr} {s t : State} (h : Singular i s t) (hi : i ≠ .softResetCompletion) (hs : s.Complete) :
    t.Complete := by
  have hquiet (c : ChanId) := (h.chan c).unmatched hs.resetting (hs.quiet c)
  obtain ⟨hr, -, hintake, hforward, hhold, hrecords, horphans⟩ := hs
  cases h with
  | completes hi' => exact absurd hi' hi
  | takes _ _ _ _ _ _ _ _ haccept => exact absurd hr (by simp [((s.uqAccept_iff).1 haccept).2.1])
  | _ => exact ⟨hr, hquiet, hintake, hforward, hhold, hrecords, horphans⟩

/-- Settles O25: every effect but the completion keeps a complete soft reset complete. -/
theorem resetCompletionPersists : Obligations.ResetCompletionPersists := by
  unfold Obligations.ResetCompletionPersists
  intro i s t hi hreset hrelease hquiet hr hc h
  have hs : s.Complete := s.complete_iff.2 ⟨hquiet, hr, hc⟩
  have ht : t.Complete := by
    cases exec_effect h hreset hrelease with
    | moves h => exact Moved.keeps Move.complete h hs
    | table u h hu => exact Moved.keeps Move.complete hu (h.complete hs)
    | singular u h hu => exact Move.complete (.alike hu) (h.complete hi hs)
  exact (t.complete_iff.1 ht).2

/-! ## The send order (O58, R124, R130) -/

theorem Move.sendOrder {s t : State} (h : Move s t) : t.sendOrder = s.sendOrder := by
  cases h with
  | alike h => exact h.sendOrder
  | settles => exact State.endReservation_sendOrder ..
  | drains c => exact s.drainTest_sendOrder c
  | _ => rfl

theorem Move.offeredInit {s t : State} (h : Move s t) : t.offeredInit = s.offeredInit := by
  cases h with
  | alike h => exact h.offeredInit
  | settles => exact State.endReservation_offeredInit ..
  | drains c => exact s.drainTest_offeredInit c
  | _ => rfl

/-- A transaction that waits to be issued. -/
def Transaction.granted (t : Transaction) : Prop := ∃ be d, t.phase = .granted be d

theorem Entry.isGranted_iff (x : Entry) : x.isGranted ↔ ∃ t, x.tx = some t ∧ t.granted := by
  simp only [Entry.isGranted, Transaction.granted]
  constructor
  · rintro ⟨t, be, d, ht, hp⟩
    exact ⟨t, ht, be, d, hp⟩
  · rintro ⟨t, ht, be, d, hp⟩
    exact ⟨t, be, d, ht, hp⟩

theorem Transaction.not_granted_of_issued {t : Transaction} (h : ∃ stamp limit, t.phase = .issued stamp limit) : ¬ t.granted := by
  obtain ⟨stamp, limit, hp⟩ := h
  rintro ⟨be, d, hp'⟩
  exact absurd (hp.symm.trans hp') (by simp)

theorem State.isGranted_take (s : State) (e f : EntryId) (t : Transaction) : ((s.take e t).entry f).isGranted ↔
    (e = f ∧ t.granted) ∨ (e ≠ f ∧ (s.entry f).isGranted) := by
  rw [State.entry_take]
  split
  · next h => simp [Entry.isGranted_iff, h]
  · next h => simp [h]

theorem State.isGranted_freeEntry (s : State) (e f : EntryId) : ((s.freeEntry e).entry f).isGranted ↔
    e ≠ f ∧ (s.entry f).isGranted := by
  rw [State.entry_freeEntry]
  split
  · next h => simp [Entry.isGranted_iff, Entry.freed, h]
  · next h => simp [h]

theorem Entry.not_isGranted_of_none {x : Entry} (h : x.tx = none) : ¬ x.isGranted := by
  rw [Entry.isGranted_iff]
  rintro ⟨t, ht, -⟩
  exact absurd (h.symm.trans ht) (by simp)

theorem Entry.not_isGranted_of_issued {x : Entry} {t : Transaction} (ht : x.tx = some t)
    (h : ∃ stamp limit, t.phase = .issued stamp limit) : ¬ x.isGranted := by
  rw [Entry.isGranted_iff]
  rintro ⟨u, hu, hg⟩
  obtain rfl : t = u := Option.some.inj (ht.symm.trans hu)
  exact Transaction.not_granted_of_issued h hg

theorem State.sendOrderAgrees_reset : State.reset.sendOrderAgrees := by
  refine ⟨fun e => iff_of_false List.not_mem_nil ?_, List.nodup_nil, by decide, fun e t ht => ?_⟩
  · rw [State.entry_reset]
    exact Entry.not_isGranted_of_none rfl
  · rw [State.entry_reset] at ht
    exact absurd ht (by simp)

theorem State.offered_joinSend (s : State) {es : List EntryId} (hes : es ≠ [])
    (h : s.offeredInit.isSome = true ↔ s.sendOrder ≠ []) :
    (s.joinSend es).offeredInit.isSome = true ↔ (s.joinSend es).sendOrder ≠ [] := by
  rw [State.joinSend_offeredInit, State.joinSend_sendOrder]
  split
  · next hempty => simp [hempty, hes]
  · next hne => simp [hne, h]

/-- A free entry taken, GRANTED, joins the order. -/
theorem State.sendOrderAgrees_grant {s : State} {e : EntryId} {t : Transaction} (he : (s.entry e).tx = none)
    (hg : t.granted) (hlive : t.orphan = false) (hs : s.sendOrderAgrees) : ((s.take e t).joinSend [e]).sendOrderAgrees := by
  obtain ⟨hmem, hnodup, hoffered, horphan⟩ := hs
  have hnew : e ∉ s.sendOrder := mt (hmem e).1 (Entry.not_isGranted_of_none he)
  refine ⟨fun f => ?_, ?_, State.offered_joinSend (s.take e t) (List.cons_ne_nil _ _) hoffered, fun f x hx ho => ?_⟩
  · rw [State.joinSend_sendOrder, State.entry_joinSend, State.isGranted_take, ← hmem f]
    change f ∈ s.sendOrder ++ [e] ↔ _
    rw [List.mem_append, List.mem_singleton]
    by_cases hef : e = f
    · simp [hef, hg]
    · simp [hef, Ne.symm hef]
  · rw [State.joinSend_sendOrder]
    exact hnodup.append (List.nodup_singleton e) (by simpa using hnew)
  · rcases State.tx_take (s := s) (e := e) hx with ⟨-, rfl⟩ | ⟨-, hx⟩
    · exact absurd ho (by simp [hlive])
    · exact horphan f x hx ho

/-- Two entries that join the order at once join it one after the other. -/
theorem State.joinSend_take (s : State) (a b : EntryId) (t : Transaction) :
    (s.take b t).joinSend [a, b] = ((s.joinSend [a]).take b t).joinSend [b] := by
  simp [State.joinSend, State.take, State.setEntry, State.entry]

/-- An entry that is not GRANTED stays so, or is freed. -/
theorem State.sendOrderAgrees_of_issued {s u : State} {e : EntryId} (hs : s.sendOrderAgrees) (hsend : u.sendOrder = s.sendOrder)
    (hinit : u.offeredInit = s.offeredInit) (he : ¬ (s.entry e).isGranted)
    (hgranted : ∀ f, (u.entry f).isGranted ↔ e ≠ f ∧ (s.entry f).isGranted)
    (hissued : ∀ f x, (u.entry f).tx = some x → x.orphan = true → ∃ stamp limit, x.phase = .issued stamp limit) :
    u.sendOrderAgrees := by
  obtain ⟨hmem, hnodup, hoffered, -⟩ := hs
  refine ⟨fun f => ?_, hsend ▸ hnodup, by rw [hinit, hsend]; exact hoffered, hissued⟩
  rw [hsend, hmem f, hgranted f]
  exact ⟨fun hf => ⟨fun hef => he (hef ▸ hf), hf⟩, fun hf => hf.2⟩

theorem State.sendOrderAgrees_freeEntry {s : State} {e : EntryId} {x : Transaction} (hx : (s.entry e).tx = some x)
    (hissued : ∃ stamp limit, x.phase = .issued stamp limit) (hs : s.sendOrderAgrees) : (s.freeEntry e).sendOrderAgrees := by
  obtain ⟨-, -, -, horphan⟩ := id hs
  exact State.sendOrderAgrees_of_issued hs rfl rfl (Entry.not_isGranted_of_issued hx hissued) (s.isGranted_freeEntry e)
    fun f y hy => horphan f y (State.tx_freeEntry hy).2

theorem State.sendOrderAgrees_orphan {s : State} {e : EntryId} {x : Transaction} (hx : (s.entry e).tx = some x)
    (hissued : ∃ stamp limit, x.phase = .issued stamp limit) (hs : s.sendOrderAgrees) :
    (s.take e { x with orphan := true }).sendOrderAgrees := by
  obtain ⟨-, -, -, horphan⟩ := id hs
  refine State.sendOrderAgrees_of_issued hs rfl rfl (Entry.not_isGranted_of_issued hx hissued) (fun f => ?_) fun f y hy ho => ?_
  · rw [State.isGranted_take]
    have hno := Transaction.not_granted_of_issued (t := { x with orphan := true }) hissued
    tauto
  · rcases State.tx_take hy with ⟨-, rfl⟩ | ⟨-, hy⟩
    · exact hissued
    · exact horphan f y hy ho

/-- The oldest GRANTED entry is ISSUED and leaves the order. -/
theorem State.sendOrderAgrees_issue {s u : State} {e : EntryId} {rest : List EntryId} {x : Transaction} {stamp : Word}
    {limit : Nat} (hs : s.sendOrderAgrees) (horder : s.sendOrder = e :: rest)
    (htable : u.table = (s.take e { x with phase := .issued stamp limit }).table) (hsend : u.sendOrder = rest)
    (hinit : u.offeredInit = if rest.isEmpty then none else some s.partInitiator) : u.sendOrderAgrees := by
  obtain ⟨hmem, hnodup, -, horphan⟩ := hs
  rw [horder, List.nodup_cons] at hnodup
  have hentry := State.entry_eq_of_table (s.take e { x with phase := .issued stamp limit }) htable
  refine ⟨fun f => ?_, hsend ▸ hnodup.2, ?_, fun f y hy ho => ?_⟩
  · have hno := Transaction.not_granted_of_issued (t := { x with phase := .issued stamp limit }) ⟨stamp, limit, rfl⟩
    rw [hsend, hentry, State.isGranted_take, ← hmem f, horder, List.mem_cons]
    constructor
    · intro hf
      exact .inr ⟨fun hef => hnodup.1 (hef ▸ hf), .inr hf⟩
    · rintro (⟨-, hg⟩ | ⟨hef, hf⟩)
      · exact absurd hg hno
      · exact hf.resolve_left (Ne.symm hef)
  · rw [hinit, hsend]
    cases rest <;> simp
  · rw [hentry] at hy
    rcases State.tx_take hy with ⟨-, rfl⟩ | ⟨-, hy⟩
    · exact ⟨stamp, limit, rfl⟩
    · exact horphan f y hy ho

theorem TableMove.sendOrderAgrees {s t : State} (h : TableMove s t) (hs : s.sendOrderAgrees) : t.sendOrderAgrees := by
  cases h with
  | grantsForward r rest e w hf he =>
    exact State.sendOrderAgrees_grant (s := { s with forward := rest }) he ⟨r.be, r.data, rfl⟩ rfl hs
  | grantsRecord before after' r a b w hsplit heligible hab ha hb =>
    let u : State := { s with
      records := before ++ after', outstanding := s.outstanding ++ [⟨r.chan, r.seq, r.slot, .awaiting, .awaiting⟩] }
    have hfirst := State.sendOrderAgrees_grant (s := u) (t := r.transaction (s.recordStart r) .first) ha ⟨_, _, rfl⟩ rfl hs
    have hb' : (((u.take a (r.transaction (s.recordStart r) .first)).joinSend [a]).entry b).tx = none := by
      rw [State.entry_joinSend, State.entry_take, if_neg hab]
      exact hb
    have hsecond := State.sendOrderAgrees_grant (t := r.transaction (s.recordStart r) .second) hb' ⟨_, _, rfl⟩ rfl hfirst
    rw [← State.joinSend_take] at hsecond
    exact hsecond
  | issues e rest x stamp limit dq horder hx => exact State.sendOrderAgrees_issue hs horder (x := x) rfl rfl rfl
  | freesForward e x r hx hissued => exact State.sendOrderAgrees_freeEntry hx hissued hs
  | frees e x hx hissued => exact State.sendOrderAgrees_freeEntry hx hissued hs
  | orphansForward e x r hx hissued => exact State.sendOrderAgrees_orphan hx hissued hs
  | orphans e x hx hissued => exact State.sendOrderAgrees_orphan hx hissued hs

theorem Move.sendOrderAgrees {s t : State} (h : Move s t) (hs : s.sendOrderAgrees) : t.sendOrderAgrees := by
  simpa only [State.sendOrderAgrees, h.sendOrder, h.offeredInit, h.entry] using hs

/-- At the completion every entry in use is an orphan, so ISSUED, and the order is empty (R124, R168). -/
theorem State.sendOrder_of_resetComplete {s : State} (hc : s.resetComplete = true) (hs : s.sendOrderAgrees) :
    s.sendOrder = [] := by
  obtain ⟨hmem, -, -, horphan⟩ := hs
  refine List.eq_nil_iff_forall_not_mem.2 fun e he => ?_
  have hgranted := (hmem e).1 he
  obtain ⟨x, hx, -⟩ := (Entry.isGranted_iff _).1 hgranted
  exact Entry.not_isGranted_of_issued hx (horphan e x hx (State.orphan_of_resetComplete hc hx)) hgranted

theorem Singular.sendOrderAgrees {i : Instr} {s t : State} (h : Singular i s t) (hs : s.sendOrderAgrees) :
    t.sendOrderAgrees := by
  cases h with
  | completes _ _ hc =>
    have hempty : s.sendOrder = [] := State.sendOrder_of_resetComplete hc hs
    obtain ⟨-, -, hoffered, -⟩ := hs
    refine ⟨fun e => iff_of_false ?_ (Entry.not_isGranted_of_none (s.tx_completed e)), hempty ▸ List.nodup_nil, hoffered,
      fun e x hx => ?_⟩
    · change e ∉ s.sendOrder
      rw [hempty]
      exact List.not_mem_nil
    · rw [State.tx_completed] at hx
      exact absurd hx (by simp)
  | _ => exact hs

theorem kept_sendOrderAgrees : Kept State.sendOrderAgrees :=
  ⟨Move.sendOrderAgrees, TableMove.sendOrderAgrees, Singular.sendOrderAgrees, fun _ _ => State.sendOrderAgrees_reset⟩

/-! ## Held reads wait for reserved slots (O58, R101, R119) -/

theorem State.reserved_iff (s : State) (c : ChanId) (slot : Nat) : s.reserved c slot = true ↔
    (∃ r ∈ s.records, r.chan = c ∧ r.slot = slot) ∨ ∃ o ∈ s.outstanding, o.chan = c ∧ o.slot = slot := by
  simp only [State.reserved, Bool.or_eq_true, List.any_eq_true, Bool.and_eq_true, beq_iff_eq]

/-- Held reads keep their reservations where no read is newly held and no record is gone. -/
theorem State.heldReserved_of {s t : State} (hs : s.heldReserved) (hhold : ∀ h ∈ t.hold, h.cond = .held → h ∈ s.hold)
    (hrecords : ∀ r ∈ s.records, r ∈ t.records ∨ ∃ o ∈ t.outstanding, o.chan = r.chan ∧ o.slot = r.slot)
    (houtstanding : ∀ o ∈ s.outstanding, ∃ p ∈ t.outstanding, p.chan = o.chan ∧ p.slot = o.slot) : t.heldReserved := by
  intro h hh hheld
  rw [State.reserved_iff]
  rcases (s.reserved_iff _ _).1 (hs h (hhold h hh hheld) hheld) with ⟨r, hr, hchan, hslot⟩ | ⟨o, ho, hchan, hslot⟩
  · rcases hrecords r hr with hr | ⟨p, hp, hpchan, hpslot⟩
    · exact .inl ⟨r, hr, hchan, hslot⟩
    · exact .inr ⟨p, hp, hpchan.trans hchan, hpslot.trans hslot⟩
  · obtain ⟨p, hp, hpchan, hpslot⟩ := houtstanding o ho
    exact .inr ⟨p, hp, hpchan.trans hchan, hpslot.trans hslot⟩

/-- The same where the records stand as they were. -/
theorem State.heldReserved_of_records {s t : State} (hs : s.heldReserved) (hhold : ∀ h ∈ t.hold, h.cond = .held → h ∈ s.hold)
    (hrecords : t.records = s.records) (houtstanding : t.outstanding = s.outstanding) : t.heldReserved :=
  State.heldReserved_of hs hhold (fun _ hr => .inl (hrecords ▸ hr)) fun o ho => ⟨o, houtstanding ▸ ho, rfl, rfl⟩

/-- A record settled releases the reads that no other record holds (R101). -/
theorem State.heldReserved_settle {s : State} {before after' : List OutRecord} {o : OutRecord}
    (hsplit : s.outstanding = before ++ o :: after') (hs : s.heldReserved) :
    (State.endReservation { s with outstanding := before ++ after' } o.chan o.slot).heldReserved := by
  let u : State := { s with outstanding := before ++ after' }
  -- the reads of s that wait for another slot, or whose slot another record names
  have hstill (g : HoldEntry) (hg : g ∈ s.hold) (hheld : g.cond = .held)
      (hother : (g.chan = o.chan ∧ g.slot = o.slot) → u.reserved o.chan o.slot = true) : u.reserved g.chan g.slot = true := by
    rcases (s.reserved_iff _ _).1 (hs g hg hheld) with hrecord | ⟨p, hp, hchan, hslot⟩
    · exact (u.reserved_iff _ _).2 (.inl hrecord)
    · rw [hsplit, List.mem_append, List.mem_cons] at hp
      by_cases hpo : p = o
      · subst hpo
        rw [← hchan, ← hslot]
        exact hother ⟨hchan.symm, hslot.symm⟩
      · exact (u.reserved_iff _ _).2 (.inr ⟨p, List.mem_append.2 (hp.imp_right fun h => h.resolve_left hpo), hchan, hslot⟩)
  change (u.endReservation o.chan o.slot).heldReserved
  rw [State.endReservation_eq]
  intro h hh hheld
  change u.reserved h.chan h.slot = true
  dsimp only at hh
  split at hh
  · next hres => exact hstill h hh hheld fun _ => hres
  · obtain ⟨g, hg, rfl⟩ := List.mem_map.1 hh
    unfold HoldEntry.release at hheld ⊢
    split at hheld
    · exact absurd hheld (by simp)
    · next hne =>
      rw [if_neg hne]
      exact hstill g hg hheld fun h => absurd h hne

/-- Channels disabled release the reads whose last record they discard (R99, R101). -/
theorem State.heldReserved_disableAll {s : State} (D : ChanId → Bool) (hs : s.heldReserved) :
    (s.disableAll D).heldReserved := by
  intro h hh hheld
  obtain ⟨g, hg, rfl⟩ := List.mem_map.1 hh
  split at hheld
  · exact absurd hheld (by simp)
  · next hfreed =>
    rw [if_neg hfreed, State.reserved_iff]
    rcases (s.reserved_iff _ _).1 (hs g hg hheld) with ⟨r, hr, hchan, hslot⟩ | hout
    · by_cases hgone : (D r.chan && (s.chan r.chan).rt.state.intakeMatched) = true
      · rw [hchan, Bool.and_eq_true] at hgone
        have hrecord : s.records.any (fun r => r.chan == g.chan && r.slot == g.slot) = true :=
          List.any_eq_true.2 ⟨r, hr, by simp [hchan, hslot]⟩
        have hout : s.outstanding.any (fun o => o.chan == g.chan && o.slot == g.slot) = true := by
          simpa [State.freed, hgone.1, hgone.2, hrecord] using hfreed
        simp only [List.any_eq_true, Bool.and_eq_true, beq_iff_eq] at hout
        exact .inr hout
      · exact .inl ⟨r, List.mem_filter.2 ⟨hr, by rw [Bool.eq_false_iff.2 hgone]; rfl⟩, hchan, hslot⟩
    · exact .inr hout

theorem Move.heldReserved {s t : State} (h : Move s t) (hs : s.heldReserved) : t.heldReserved := by
  cases h with
  | alike h =>
    exact State.heldReserved_of_records hs (fun x hx _ => h.hold ▸ hx) h.records h.outstanding
  | queues r =>
    exact State.heldReserved_of hs (fun x hx _ => hx) (fun x hx => .inl (List.mem_append_left _ hx)) fun o ho => ⟨o, ho, rfl, rfl⟩
  | holds x rest c slot _ _ _ hres =>
    intro g hg hheld
    rcases List.mem_append.1 hg with hg | hg
    · exact hs g hg hheld
    · rw [List.mem_singleton.1 hg]
      exact hres
  | readMoves before after' x hsplit =>
    refine State.heldReserved_of_records hs (fun g hg _ => ?_) rfl rfl
    rw [hsplit]
    exact ((List.sublist_cons_self x after').append_left before).subset hg
  | notes before after' o o' hsplit hchan hslot =>
    refine State.heldReserved_of hs (fun x hx _ => hx) (fun x hx => .inl hx) fun p hp => ?_
    rw [hsplit, List.mem_append, List.mem_cons] at hp
    rcases hp with hp | rfl | hp
    · exact ⟨p, List.mem_append_left _ hp, rfl, rfl⟩
    · exact ⟨o', by simp, hchan, hslot⟩
    · exact ⟨p, List.mem_append_right _ (List.mem_cons_of_mem _ hp), rfl, rfl⟩
  | settles before after' o hsplit => exact State.heldReserved_settle hsplit hs
  | drains c =>
    refine State.heldReserved_of_records hs (fun g hg _ => ?_) (s.drainTest_records c) (s.drainTest_outstanding c)
    rwa [s.drainTest_hold c] at hg
  | disables D => exact State.heldReserved_disableAll D hs
  | _ => exact hs

theorem TableMove.heldReserved {s t : State} (h : TableMove s t) (hs : s.heldReserved) : t.heldReserved := by
  cases h with
  | grantsRecord before after' r a b w hsplit =>
    refine State.heldReserved_of hs (fun x hx _ => hx) (fun x hx => ?_) fun o ho => ⟨o, List.mem_append_left _ ho, rfl, rfl⟩
    rw [hsplit, List.mem_append, List.mem_cons] at hx
    rcases hx with hx | rfl | hx
    · exact .inl (List.mem_append_left _ hx)
    · exact .inr ⟨_, List.mem_append_right _ (List.mem_singleton.2 rfl), rfl, rfl⟩
    · exact .inl (List.mem_append_right _ hx)
  | _ => exact hs

theorem State.heldReserved_reset : State.reset.heldReserved := fun _ hh => absurd hh List.not_mem_nil

theorem kept_heldReserved : Kept State.heldReserved where
  move := Move.heldReserved
  table := TableMove.heldReserved
  singular h hs := by cases h <;> exact hs
  reset _ _ := State.heldReserved_reset

/-- Settles O58: every effect keeps the two. -/
theorem stepKeepsSendOrderAndHolds : Obligations.StepKeepsSendOrderAndHolds := by
  unfold Obligations.StepKeepsSendOrderAndHolds
  exact ⟨kept_sendOrderAgrees.step, kept_heldReserved.step⟩

end Sys2Proof.Machine
end

section
/-! PROOFS. The record writes in the Tracking Table apart, and the reset state. -/

namespace Sys2Proof.Machine

/-! ## Where a record lies (R90, R6) -/

/-- An aligned output area ends within the address space. -/
theorem ChanConfig.outputEnd_le {cfg : ChanConfig} (hr : cfg.inRange) (halign : cfg.outputStart % cfg.outputSize = 0) :
    cfg.outputStart + cfg.outputSize ≤ 2 ^ 32 := by
  obtain ⟨-, -, hdepth, -⟩ := hr
  have hlt : cfg.outputStart < 2 ^ 32 := cfg.outputBase.isLt
  unfold ChanConfig.outputSize at halign ⊢
  simp only [List.mem_cons, List.not_mem_nil, or_false] at hdepth
  rcases hdepth with h | h | h | h | h <;> rw [h] at halign ⊢ <;> omega

/-- A slot of an aligned output area lies within the address space. -/
theorem ChanConfig.slotEnd_le {cfg : ChanConfig} {slot : Nat} (hr : cfg.inRange)
    (halign : cfg.outputStart % cfg.outputSize = 0) (hslot : slot < cfg.outputDepth) : cfg.slotStart slot + 32 ≤ 2 ^ 32 := by
  have hend := cfg.outputEnd_le hr halign
  unfold ChanConfig.outputSize at hend
  unfold ChanConfig.slotStart
  omega

/-- Where the first half of a record lies (R96). -/
theorem Record.first_addr (r : Record) {start : Nat} (hstart : start + 32 ≤ 2 ^ 32) :
    (r.transaction start .first).addr.toNat = start := Nat.mod_eq_of_lt (by omega)

/-- Where the second half of a record lies (R96). -/
theorem Record.second_addr (r : Record) {start : Nat} (hstart : start + 32 ≤ 2 ^ 32) :
    (r.transaction start .second).addr.toNat = start + 16 := Nat.mod_eq_of_lt (by omega)

/-- A record half is sixteen bytes (R96). -/
theorem Record.half_len (r : Record) (start : Nat) (h : RecHalf) : 4 * (r.transaction start h).len.toNat = 16 := by
  cases h <;> rfl

/-! ## Record writes apart (O59, R94) -/

/-- The spans of any two record writes in the Tracking Table lie apart. -/
def State.writesApart (s : State) : Prop :=
  ∀ e f t u, e ≠ f → (s.entry e).tx = some t → (s.entry f).tx = some u → t.servesRecord = true → u.servesRecord = true →
    t.apartFrom u

theorem Transaction.apartFrom_symm {t u : Transaction} (h : t.apartFrom u) : u.apartFrom t := by
  rw [Transaction.apartFrom, rangesOverlap_comm]
  exact h

/-- A transaction put in an entry, apart from the record writes in the others, keeps them apart. -/
theorem State.writesApart_take {s : State} {e : EntryId} {t : Transaction} (hs : s.writesApart)
    (ht : ∀ f u, e ≠ f → (s.entry f).tx = some u → t.servesRecord = true → u.servesRecord = true → t.apartFrom u) :
    (s.take e t).writesApart := by
  intro f g x y hfg hx hy hxr hyr
  rcases State.tx_take hx with ⟨rfl, rfl⟩ | ⟨hef, hx⟩
  · obtain ⟨hne, hy⟩ := (State.tx_take hy).resolve_left fun h => hfg h.1
    exact ht g y hne hy hxr hyr
  · rcases State.tx_take hy with ⟨rfl, rfl⟩ | ⟨-, hy⟩
    · exact Transaction.apartFrom_symm (ht f x hef hx hyr hxr)
    · exact hs f g x y hfg hx hy hxr hyr

/-- The same for a transaction that takes the place of one with the same span, if it served a record. -/
theorem State.writesApart_retake {s : State} {e : EntryId} {t u : Transaction} (hu : (s.entry e).tx = some u)
    (horigin : t.origin = u.origin) (haddr : t.addr = u.addr) (hlen : t.len = u.len) (hs : s.writesApart) :
    (s.take e t).writesApart := by
  refine State.writesApart_take hs fun f x hef hx htr hxr => ?_
  have hserves : u.servesRecord = true := by rwa [Transaction.servesRecord, ← horigin]
  have hapart := hs e f u x hef hu hx hserves hxr
  rwa [Transaction.apartFrom, haddr, hlen]

theorem State.writesApart_freeEntry {s : State} {e : EntryId} (hs : s.writesApart) : (s.freeEntry e).writesApart := by
  intro f g x y hfg hx hy
  exact hs f g x y hfg (State.tx_freeEntry hx).2 (State.tx_freeEntry hy).2

/-- The two halves of an eligible record join the record writes of the table (R94, R96). -/
theorem State.writesApart_grant {s : State} {r : Record} {a b : EntryId}
    (hstart : s.recordStart r + 32 ≤ 2 ^ 32) (heligible : s.eligible r = true) (hs : s.writesApart) :
    ((s.take a (r.transaction (s.recordStart r) .first)).take b (r.transaction (s.recordStart r) .second)).writesApart := by
  have hfree (h : RecHalf) (f : EntryId) (u : Transaction) (hu : (s.entry f).tx = some u) :
      (r.transaction (s.recordStart r) h).apartFrom u := by
    obtain ⟨htable, -, -⟩ := (State.slotBusy_eq_false_iff s _).1 ((s.eligible_iff r).1 heligible)
    have hspan := htable f u hu
    rw [spanOverlaps, rangesOverlap, decide_eq_false_iff_not] at hspan
    rw [Transaction.apartFrom, r.half_len, rangesOverlap, decide_eq_false_iff_not]
    cases h with
    | first => rw [r.first_addr hstart]; omega
    | second => rw [r.second_addr hstart]; omega
  refine State.writesApart_take (State.writesApart_take hs fun f u _ hu _ _ => hfree .first f u hu) fun f u hbf hu _ _ => ?_
  rcases State.tx_take hu with ⟨-, rfl⟩ | ⟨-, hu⟩
  · rw [Transaction.apartFrom, r.half_len, r.half_len, r.first_addr hstart, r.second_addr hstart, rangesOverlap,
      decide_eq_false_iff_not]
    omega
  · exact hfree .second f u hu

/-- A record's slot lies within the address space (R6, R90). -/
theorem State.recordStart_le {s : State} (hr : s.configInRange) (hq : s.disabledQuiet) (hs : s.recordWritesApart) {r : Record}
    (hmem : r ∈ s.records) : s.recordStart r + 32 ≤ 2 ^ 32 := by
  obtain ⟨hrecords, -, -⟩ := hq
  obtain ⟨halign, hslot, -⟩ := hs
  have hlive := LifeCycle.ne_disabled_of_intakeMatched (hrecords r hmem)
  exact ChanConfig.slotEnd_le (hr.1 r.chan) (halign r.chan hlive) (hslot r hmem)

theorem TableMove.writesApart {s t : State} (h : TableMove s t) (hr : s.configInRange) (hq : s.disabledQuiet)
    (hs : s.recordWritesApart) : t.writesApart := by
  obtain ⟨-, -, hapart⟩ := id hs
  cases h with
  | grantsForward r rest e =>
    exact State.writesApart_take (s := s) (e := e) (t := r.transaction) hapart fun _ _ _ _ h => absurd h (by
      simp [Transaction.servesRecord, Request.transaction])
  | grantsRecord before after' r a b w hsplit heligible =>
    exact State.writesApart_grant (s := s) (State.recordStart_le hr hq hs (by rw [hsplit]; simp)) heligible hapart
  | issues e rest x stamp limit dq _ hx =>
    exact State.writesApart_retake (s := s) (t := { x with phase := .issued stamp limit }) hx rfl rfl rfl hapart
  | freesForward e => exact State.writesApart_freeEntry (s := s) (e := e) hapart
  | frees e => exact State.writesApart_freeEntry (s := s) (e := e) hapart
  | orphansForward e x r hx => exact State.writesApart_retake (s := s) (t := { x with orphan := true }) hx rfl rfl rfl hapart
  | orphans e x hx => exact State.writesApart_retake (s := s) (t := { x with orphan := true }) hx rfl rfl rfl hapart

/-- What recordWritesApart says of channels and queued records. -/
def State.slotsAligned (s : State) : Prop :=
  (∀ c, (s.chan c).rt.state ≠ .disabled → (s.chan c).cfg.outputStart % (s.chan c).cfg.outputSize = 0)
    ∧ ∀ r ∈ s.records, r.slot < (s.chan r.chan).cfg.outputDepth

theorem State.recordWritesApart_iff (s : State) : s.recordWritesApart ↔ s.slotsAligned ∧ s.writesApart := and_assoc.symm

theorem Move.records {s t : State} (h : Move s t) {r : Record} (hr : r ∈ t.records) :
    r ∈ s.records ∨ ∃ n, r.slot = n % (s.chan r.chan).cfg.outputDepth := by
  cases h with
  | alike h => exact .inl (h.records ▸ hr)
  | queues x _ _ hslot =>
    refine (List.mem_append.1 hr).imp_right fun hx => ?_
    rw [List.mem_singleton.1 hx]
    exact hslot
  | settles => exact .inl (by rwa [State.endReservation_records] at hr)
  | drains c => exact .inl (by rwa [State.drainTest_records] at hr)
  | disables D => exact .inl (List.mem_filter.1 hr).1
  | _ => exact .inl hr

theorem ChanConfig.outputDepth_pos {cfg : ChanConfig} (hr : cfg.inRange) : 0 < cfg.outputDepth := by
  obtain ⟨-, -, hdepth, -⟩ := hr
  simp only [List.mem_cons, List.not_mem_nil, or_false] at hdepth
  omega

theorem Move.slotsAligned {s t : State} (h : Move s t) (hr : s.configInRange) (hs : s.slotsAligned) : t.slotsAligned := by
  obtain ⟨halign, hslot⟩ := hs
  refine ⟨fun c hlive => ?_, fun r hmem => ?_⟩
  · rw [(h.chan c).cfg]
    exact halign c fun hd => hlive ((h.chan c).disabled hd)
  · rw [(h.chan r.chan).cfg]
    rcases h.records hmem with hmem | ⟨n, hn⟩
    · exact hslot r hmem
    · rw [hn]
      exact Nat.mod_lt n (ChanConfig.outputDepth_pos (hr.1 r.chan))

theorem TableMove.slotsAligned {s t : State} (h : TableMove s t) (hs : s.slotsAligned) : t.slotsAligned := by
  obtain ⟨halign, hslot⟩ := hs
  refine ⟨fun c hlive => ?_, fun r hmem => ?_⟩
  · rw [h.chan c] at hlive ⊢
    exact halign c hlive
  · rw [h.chan r.chan]
    exact hslot r (h.records hmem)

theorem ChannelEffect.aligned {i : Instr} {s : State} {c : ChanId} {ch : Channel} (h : ChannelEffect i s c ch)
    (hs : (s.chan c).rt.state ≠ .disabled → (s.chan c).cfg.outputStart % (s.chan c).cfg.outputSize = 0)
    (hlive : ch.rt.state ≠ .disabled) : ch.cfg.outputStart % ch.cfg.outputSize = 0 := by
  cases h with
  | configured n v cfg hstate => exact absurd hstate hlive
  | enabled n w _ _ _ _ halign => exact halign
  | completed => exact absurd rfl hlive
  | _ => exact hs hlive

theorem Singular.records {i : Instr} {s t : State} (h : Singular i s t) : t.records = s.records := by cases h <;> rfl

theorem Singular.slotsAligned {i : Instr} {s t : State} (h : Singular i s t) (hq : s.disabledQuiet) (hs : s.slotsAligned) :
    t.slotsAligned := by
  obtain ⟨hrecords, -, -⟩ := hq
  obtain ⟨halign, hslot⟩ := hs
  refine ⟨fun c hlive => (h.chan c).aligned (halign c) hlive, fun r hmem => ?_⟩
  rw [h.records] at hmem
  rw [(h.chan r.chan).cfg (LifeCycle.ne_disabled_of_intakeMatched (hrecords r hmem))]
  exact hslot r hmem

theorem Singular.writesApart {i : Instr} {s t : State} (h : Singular i s t) (hs : s.writesApart) : t.writesApart := by
  cases h with
  | completes =>
    intro e f x y _ hx
    rw [State.tx_completed] at hx
    exact absurd hx (by simp)
  | _ => exact hs

theorem State.recordWritesApart_reset : State.reset.recordWritesApart := by
  refine ⟨fun c hlive => ?_, fun r hr => absurd hr List.not_mem_nil, fun e f x y _ hx => ?_⟩
  · rw [State.chan_reset] at hlive
    exact absurd rfl hlive
  · rw [State.entry_reset] at hx
    exact absurd hx (by simp)

/-- The three invariants that keep the record writes apart, together. -/
def State.writesKept (s : State) : Prop := s.configInRange ∧ s.disabledQuiet ∧ s.recordWritesApart

theorem kept_writesKept : Kept State.writesKept where
  move h hs := by
    obtain ⟨hr, hq, hw⟩ := hs
    obtain ⟨haligned, hapart⟩ := (State.recordWritesApart_iff _).1 hw
    refine ⟨h.configInRange hr, h.disabledQuiet hq, (State.recordWritesApart_iff _).2 ⟨h.slotsAligned hr haligned, ?_⟩⟩
    simpa only [State.writesApart, h.entry] using hapart
  table h hs := by
    obtain ⟨hr, hq, hw⟩ := hs
    obtain ⟨haligned, -⟩ := (State.recordWritesApart_iff _).1 hw
    exact ⟨h.configInRange hr, h.disabledQuiet hq,
      (State.recordWritesApart_iff _).2 ⟨h.slotsAligned haligned, h.writesApart hr hq hw⟩⟩
  singular h hs := by
    obtain ⟨hr, hq, hw⟩ := hs
    obtain ⟨haligned, hapart⟩ := (State.recordWritesApart_iff _).1 hw
    exact ⟨h.configInRange hr, h.disabledQuiet hq,
      (State.recordWritesApart_iff _).2 ⟨h.slotsAligned hq haligned, h.writesApart hapart⟩⟩
  reset _ _ := ⟨State.configInRange_reset, State.disabledQuiet_reset, State.recordWritesApart_reset⟩

/-- Settles O59: a record is granted only apart from every write in the table, and its two halves lie side by side. -/
theorem stepKeepsRecordWritesApart : Obligations.StepKeepsRecordWritesApart := by
  unfold Obligations.StepKeepsRecordWritesApart
  intro s t hr hq hw h
  obtain ⟨-, -, hw'⟩ := kept_writesKept.step s t ⟨hr, hq, hw⟩ h
  exact hw'

/-! ## The reset state (O60) -/

/-- Settles O60: the reset state meets each invariant. -/
theorem resetMeetsTheInvariants : Obligations.ResetMeetsTheInvariants := by
  unfold Obligations.ResetMeetsTheInvariants
  refine ⟨State.withinCapacity_reset, State.configInRange_reset, State.windowsApart_reset, fun c => ?_, fun c => ?_,
    State.positionsFollow_reset, State.disabledQuiet_reset, State.resettingQuiet_reset, State.sendOrderAgrees_reset,
    State.heldReserved_reset, State.recordWritesApart_reset⟩
  · rw [State.chan_reset]
    exact Channel.timingAgrees_reset
  · rw [State.chan_reset]
    exact Channel.rateBounded_reset

end Sys2Proof.Machine
end
